-- ==== Sys2Proof/Word.lean ====
section
/-! DEFINITION. The words of the block: a byte of either bus, a nibble of a coded byte, the two-bit raw state of the
encoder (spec/00_scope.md rules R7 and R11). Everything else the block counts or decodes is a number, not a word. -/

namespace Sys2Proof

/-- A byte of either bus, a register of `FRAME` or `CBUF`, a code byte (R11: unsigned, bit 0 least significant). -/
abbrev Byte := BitVec 8

/-- Half a byte: a BCD digit, or a half of a HOSTOP code (R95, R115). -/
abbrev Nibble := BitVec 4

/-- The raw state of the encoder, the levels of ENC_A (bit 1) and ENC_B (bit 0) (R108). -/
abbrev RawState := BitVec 2

end Sys2Proof
end

