-- ==== Sys2Proof/Config.lean ====
section
/-! DEFINITION. The parameters of rule R6, and the free values: constants with no body, of which nothing can be proved
but that they are there. -/

namespace Sys2Proof

/-- `HOUR12_POLICY` (R6, R106): silent truncation is not one of its values (C4). -/
inductive HourPolicy where
  | reconstruct
  | reject
deriving DecidableEq, Repr

/-- The parameters of the step relation (R6, R10), durations in microseconds. -/
structure Params where
  /-- `T_WAKE_US`, a lower bound (R132). -/
  tWake : Nat
  /-- `T_REL_US`, an upper bound (R133). -/
  tRel : Nat
  /-- `T_HS_US`, informative: only a conforming sensor has it (R63, R135). -/
  tHs : Nat
  /-- `T_BITLOW_US`, informative (R136). -/
  tBitLow : Nat
  /-- `T_BIT0_US`, informative (R136). -/
  tBit0 : Nat
  /-- `T_BIT1_US`, informative (R136). -/
  tBit1 : Nat
  /-- `T_SAMPLE_US` (R137). -/
  tSample : Nat
  /-- `T_WAIT_BUDGET_US` (R6, R140): what `WAIT_MAX_ITER` polls of `T_POLL_US` come to (D8, `Params.wf`). DESIGN CHOICE
  (log 34): where the three are set apart the loop of R140 governs, and no step reads this one. -/
  tWaitBudget : Nat
  /-- `T_POLL_US` (R140). -/
  tPoll : Nat
  /-- `WAIT_MAX_ITER` (R140): with `T_POLL_US` it alone sets the budget of a wait step (DESIGN CHOICE, log 34). -/
  waitMaxIter : Nat
  /-- `T_HALFBIT_US` (R161, R163). -/
  tHalfbit : Nat
  /-- `T_GLITCH_US` (R203). -/
  tGlitch : Nat
  /-- `T_DEBOUNCE_US` (R233). -/
  tDebounce : Nat
  /-- `N_DETENT`, at least 1, OPEN (R207, D36). -/
  nDetent : Nat
  /-- `BTN_ACTIVE_LEVEL`, OPEN (R231, D25). -/
  btnActive : Bool
  /-- `DIR_SWAP` (R110). -/
  dirSwap : Bool
  /-- `HOUR12_POLICY` (R106). -/
  hour12 : HourPolicy
  /-- `LASTEV_ON_BUTTON_UP` (R253). -/
  lastevOnUp : Bool
  /-- The nine command bytes (R101). -/
  cmdBurstRead : Byte
  cmdWrSeconds : Byte
  cmdWrMinutes : Byte
  cmdWrHours : Byte
  cmdWrDay : Byte
  cmdWrMonth : Byte
  cmdWrWeekday : Byte
  cmdWrYear : Byte
  cmdWrControl : Byte
  /-- `WP_OFF` and `WP_ON` (R102). -/
  wpOff : Byte
  wpOn : Byte
  /-- `MASK[0..6]` (R103, D14). -/
  mask : Vector Byte 7
  /-- `T_SENSOR_MIN_INTERVAL_US`, OPEN, default none, enforced by nothing in the block (R341, D33). -/
  tSensorMin : Option Nat
deriving DecidableEq, Repr

/-- The nine command bytes, in the order of the table of R101. -/
def Params.commands (p : Params) : List Byte :=
  [p.cmdBurstRead, p.cmdWrSeconds, p.cmdWrMinutes, p.cmdWrHours, p.cmdWrDay, p.cmdWrMonth, p.cmdWrWeekday,
    p.cmdWrYear, p.cmdWrControl]

/-- What the spec asks of the parameters: `N_DETENT` is at least 1 (R6), the nine command values are pairwise different
(R101), and `WAIT_MAX_ITER` is `T_WAIT_BUDGET_US / T_POLL_US` (R6, D8; where a maker sets them apart, log 34). -/
def Params.wf (p : Params) : Bool :=
  decide (1 ≤ p.nDetent) && decide p.commands.Nodup && decide (p.waitMaxIter = p.tWaitBudget / p.tPoll)

/-- FREE VALUE. One less than the OPEN parameter `N_DETENT` (D36), so that N_DETENT is any number from 1 on (log 2). -/
opaque Config.openDetent : Nat

/-- FREE VALUE. The OPEN parameter `BTN_ACTIVE_LEVEL` (D25, log 2). -/
opaque Config.openActiveLevel : Bool

/-- FREE VALUE. What a value field of SRES holds while `SRES.valid = 0` (R23, U4, log 4). -/
opaque Config.freeByte : Nat → Byte

/-- FREE VALUE. What a field of CRES holds while `CRES.valid = 0` (R27, U4, log 4). -/
opaque Config.freeNumber : Nat → Nat

/-- FREE VALUE. A level nobody decides: RIO while neither side drives it (R164, U14, log 5), and the bits that arrive
before a timeout when the environment gives the outcome of a transfer only (R62, log 7). -/
opaque Config.freeLevel : Nat → Bool

/-- The parameters of a block whose maker chose nothing: the default of R6 where it has one, a free value where it is
OPEN. -/
def Params.standard : Params where
  tWake := 18000
  tRel := 30
  tHs := 80
  tBitLow := 50
  tBit0 := 27
  tBit1 := 70
  tSample := 35
  tWaitBudget := 250
  tPoll := 1
  waitMaxIter := 250
  tHalfbit := 1
  tGlitch := 1000
  tDebounce := 30000
  nDetent := Config.openDetent + 1
  btnActive := Config.openActiveLevel
  dirSwap := false
  hour12 := .reconstruct
  lastevOnUp := true
  cmdBurstRead := 0xBF
  cmdWrSeconds := 0x80
  cmdWrMinutes := 0x82
  cmdWrHours := 0x84
  cmdWrDay := 0x86
  cmdWrMonth := 0x88
  cmdWrWeekday := 0x8A
  cmdWrYear := 0x8C
  cmdWrControl := 0x8E
  wpOff := 0x00
  wpOn := 0x80
  mask := Vector.replicate 7 0xFF
  tSensorMin := none

end Sys2Proof
end

