-- ==== Sys2Proof/Syntax.lean ====
section
/-! DEFINITION. The instructions: one constructor for each row of spec/opcode_table.json, with the operands the row's
rule gives it, and the type ClockValue of rule R46. -/

namespace Sys2Proof

/-- A ClockValue (R46). The fields are numbers: an operand of WRITE_CLOCK may be any (R281), a decoded byte is 0 to 165. -/
structure ClockValue where
  second : Nat
  minute : Nat
  hour : Nat
  day : Nat
  month : Nat
  weekday : Nat
  year : Nat
deriving DecidableEq, Repr

/-- What EV_PUSH posts (R251). None is never pushed, so it cannot be written here. -/
inductive PushEvent where
  | rotateCW
  | rotateCCW
  | buttonDown
  | buttonUp
deriving DecidableEq, Repr

/-- The instructions of the block (R9, R120 and the rows of the opcode table). The TIME `t` that ENC_EDGE and BTN_EDGE
are given beside their code is TIME itself, which the state holds (R74). -/
inductive Instr where
  -- HOSTOP: host operations and pin events (R115)
  | readSensor
  | readClock
  | writeClock (v : ClockValue)
  | evPop
  | evWaitRead
  | rotEnable (a b : Bool)
  | rotDisable
  | encEdge (a b : Bool)
  | btnEdge (l : Bool)
  | hostopReserved (op arg : Nibble)
  -- MICRO: micro-operations, which have no code (R120)
  | waitLevel (v : Bool)
  | sample
  | rtcWriteByte (b : Byte)
  | rtcReadByte
  | rtcPair (cmd v : Byte)
  | burstRead
  | evPush (e : PushEvent)
  -- RCMD: command bytes (R101)
  | cmdBurstRead
  | cmdWrSeconds
  | cmdWrMinutes
  | cmdWrHours
  | cmdWrDay
  | cmdWrMonth
  | cmdWrWeekday
  | cmdWrYear
  | cmdWrControl
  -- RDATA: write-protect values (R102) and the bytes of the eight locations (R99)
  | wpOff
  | wpOn
  | rdataSeconds (tens units : Nibble)
  | rdataMinutes (tens units : Nibble)
  | rdataHours (tens units : Nibble)
  | rdataDay (tens units : Nibble)
  | rdataMonth (tens units : Nibble)
  | rdataWeekday (tens units : Nibble)
  | rdataYear (tens units : Nibble)
  | rdataControl (tens units : Nibble)
  -- SFRAME: the five bytes of a sensor frame (R91)
  | sframeHumInt (b : Byte)
  | sframeHumFrac (b : Byte)
  | sframeTempInt (b : Byte)
  | sframeTempFrac (b : Byte)
  | sframeChecksum (b : Byte)
  -- QIDX: the sixteen entries of the transition table (R110), named by previous and new raw state
  | q_00_00
  | q_00_01
  | q_00_10
  | q_00_11
  | q_01_00
  | q_01_01
  | q_01_10
  | q_01_11
  | q_10_00
  | q_10_01
  | q_10_10
  | q_10_11
  | q_11_00
  | q_11_01
  | q_11_10
  | q_11_11
  -- EVCODE: codes of EV_SLOT (R112)
  | evNone
  | evRotateCW
  | evRotateCCW
  | evButtonDown
  | evButtonUp
  -- LREC: records of the blocking reader (R113); None and Btn with any direction bit
  | lrecNone
  | lrecRotPlus
  | lrecRotMinus
  | lrecBtn
  -- ERRCODE: result codes of SERR and CERR (R291)
  | errOK
  | errTimeout
  | errChecksumMismatch
  | errRangeError
  | errTransportError
deriving DecidableEq, Repr

end Sys2Proof
end

