-- ==== Sys2Proof/WellFormed.lean ====
section
/-! DEFINITION. Which terms of `Instr` stand for something that can be written down as a code: everything the types
alone do not settle. -/

namespace Sys2Proof

/-- The HOSTOP codes R115 assigns: the half bytes `op` and `arg` belong to one of the nine operations. -/
def hostopAssigned (op arg : Nibble) : Bool :=
  match op.toNat with
  | 1 | 2 | 3 | 4 | 5 | 7 => arg.toNat == 0
  | 6 | 8 => arg.toNat < 4
  | 9 => arg.toNat < 2
  | _ => false

/-- Well-formed instructions: a reserved code is one that R115 reserves. Every other term can be written down, a
WRITE_CLOCK with any operand (R281, log 12). -/
def wellFormed : Instr → Bool
  | .hostopReserved op arg => !hostopAssigned op arg
  | _ => true

end Sys2Proof
end

