-- ==== Sys2Proof/Decode.lean ====
section
/-! DEFINITION. The formats of rule R90, a decoder for each, total on any bytes and rejecting by name, and the encoder,
both written from the tables of spec/30_encoding.md. Which format a byte has is not written in the byte: it is known
from where the byte stands (R101, R119), so the decoder is told the format. The command and write-protect bytes are
parameters (R6, R10), so it is told the parameters too. -/

namespace Sys2Proof

/-- The formats (R90), each with the place that tells its rows apart: `rdata j` is a data byte at burst position `j`
(R99), `sframe n` is byte `n` of a 40-bit frame (R91), `wp on` is the data byte of a write-protect pair (R102), pair 0
for `on = false` and pair 8 for `on = true` (R180). -/
inductive Format where
  | hostop
  | rcmd
  | wp (on : Bool)
  | rdata (j : Fin 8)
  | sframe (n : Fin 5)
  | qidx
  | evcode
  | lrec
  | errcode
deriving DecidableEq, Repr

/-- Why a decoder answers no instruction. -/
inductive DecodeError where
  /-- No code byte, or fewer bytes than the format has. -/
  | tooShort
  /-- The operand bytes of WRITE_CLOCK end too soon (log 12). -/
  | missingOperand
  /-- A command byte that is none of the nine of R101. -/
  | unknownCommand
  /-- A write-protect data byte that is not the one of its pair, `WP_OFF` or `WP_ON` (R102, R180). -/
  | notWriteProtect
  /-- A bit above the 4 or 3 bits of the format is set. -/
  | highBits
  /-- EV_SLOT codes 5, 6 and 7 (R112). -/
  | reservedEvent
  /-- LASTEV kind 3 (R113). -/
  | reservedRecord
  /-- Result codes 5, 6 and 7 (R291). -/
  | reservedResult
deriving DecidableEq, Repr

/-! ### The rows by their index -/

/-- The high half of a byte: `b[7:4]`. -/
def highNibble (b : Byte) : Nibble := b.extractLsb' 4 4

/-- The low half of a byte: `b[3:0]`. -/
def lowNibble (b : Byte) : Nibble := b.extractLsb' 0 4

/-- The byte of two nibbles, `{tens, units}`. -/
def byteOf (tens units : Nibble) : Byte := tens ++ units

/-- The transition-table row of `{prev, new}` (R109, R110). -/
def transitionRow (prev new : RawState) : Instr :=
  match prev.toNat, new.toNat with
  | 0, 0 => .q_00_00
  | 0, 1 => .q_00_01
  | 0, 2 => .q_00_10
  | 0, _ => .q_00_11
  | 1, 0 => .q_01_00
  | 1, 1 => .q_01_01
  | 1, 2 => .q_01_10
  | 1, _ => .q_01_11
  | 2, 0 => .q_10_00
  | 2, 1 => .q_10_01
  | 2, 2 => .q_10_10
  | 2, _ => .q_10_11
  | _, 0 => .q_11_00
  | _, 1 => .q_11_01
  | _, 2 => .q_11_10
  | _, _ => .q_11_11

/-- The data-byte row of burst position `j` (R99), holding the byte's two digits. -/
def rdataRow (j : Fin 8) (b : Byte) : Instr :=
  match j with
  | 0 => .rdataSeconds (highNibble b) (lowNibble b)
  | 1 => .rdataMinutes (highNibble b) (lowNibble b)
  | 2 => .rdataHours (highNibble b) (lowNibble b)
  | 3 => .rdataDay (highNibble b) (lowNibble b)
  | 4 => .rdataMonth (highNibble b) (lowNibble b)
  | 5 => .rdataWeekday (highNibble b) (lowNibble b)
  | 6 => .rdataYear (highNibble b) (lowNibble b)
  | 7 => .rdataControl (highNibble b) (lowNibble b)

/-- The frame-byte row of byte `n` (R91). -/
def sframeRow (n : Fin 5) (b : Byte) : Instr :=
  match n with
  | 0 => .sframeHumInt b
  | 1 => .sframeHumFrac b
  | 2 => .sframeTempInt b
  | 3 => .sframeTempFrac b
  | 4 => .sframeChecksum b

/-- The command-byte row of pair `p` of WRITE_CLOCK (R101, R180). -/
def commandRow (p : Fin 9) : Instr :=
  match p with
  | 0 => .cmdWrControl
  | 1 => .cmdWrSeconds
  | 2 => .cmdWrMinutes
  | 3 => .cmdWrHours
  | 4 => .cmdWrDay
  | 5 => .cmdWrMonth
  | 6 => .cmdWrWeekday
  | 7 => .cmdWrYear
  | 8 => .cmdWrControl

/-! ### The decoder -/

/-- The reserved-code instruction of a HOSTOP byte. -/
def reservedOf (b : Byte) : Instr := .hostopReserved (highNibble b) (lowNibble b)

/-- A number of the operand of WRITE_CLOCK: each byte 0xFF adds 255 to the byte after it, so that any number can be
written (R281, log 12). -/
def decodeNumber : List Byte → Except DecodeError (Nat × List Byte)
  | [] => .error .missingOperand
  | b :: rest =>
    if b = 0xFF then
      match decodeNumber rest with
      | .ok (n, rest') => .ok (255 + n, rest')
      | .error e => .error e
    else .ok (b.toNat, rest)

/-- `n` numbers one after the other. -/
def decodeNumbers : Nat → List Byte → Except DecodeError (List Nat × List Byte)
  | 0, bytes => .ok ([], bytes)
  | n + 1, bytes =>
    match decodeNumber bytes with
    | .error e => .error e
    | .ok (v, rest) =>
      match decodeNumbers n rest with
      | .ok (vs, rest') => .ok (v :: vs, rest')
      | .error e => .error e

/-- The operand of WRITE_CLOCK beside its code: seven numbers in the order of the script line of R116 (log 12). -/
def decodeClockOperand (bytes : List Byte) : Except DecodeError (Instr × List Byte) :=
  match decodeNumbers 7 bytes with
  | .ok ([s, m, h, d, mo, w, y], rest) => .ok (.writeClock ⟨s, m, h, d, mo, w, y⟩, rest)
  | .ok _ => .error .missingOperand
  | .error e => .error e

/-- HOSTOP (R115): `{OP[3:0], ARG[3:0]}`, every code not assigned is reserved. -/
def decodeHostop (b : Byte) (rest : List Byte) : Except DecodeError (Instr × List Byte) :=
  if hostopAssigned (highNibble b) (lowNibble b) then
    match (highNibble b).toNat with
    | 1 => .ok (.readSensor, rest)
    | 2 => .ok (.readClock, rest)
    | 3 => decodeClockOperand rest
    | 4 => .ok (.evPop, rest)
    | 5 => .ok (.evWaitRead, rest)
    | 6 => .ok (.rotEnable (b.getLsbD 1) (b.getLsbD 0), rest)
    | 7 => .ok (.rotDisable, rest)
    | 8 => .ok (.encEdge (b.getLsbD 1) (b.getLsbD 0), rest)
    | 9 => .ok (.btnEdge (b.getLsbD 0), rest)
    | _ => .ok (reservedOf b, rest)
  else .ok (reservedOf b, rest)

/-- RCMD (R101): the nine command bytes of the parameters (R6, log 25). -/
def decodeCommand (p : Params) (b : Byte) : Except DecodeError Instr :=
  if b = p.cmdBurstRead then .ok .cmdBurstRead
  else if b = p.cmdWrSeconds then .ok .cmdWrSeconds
  else if b = p.cmdWrMinutes then .ok .cmdWrMinutes
  else if b = p.cmdWrHours then .ok .cmdWrHours
  else if b = p.cmdWrDay then .ok .cmdWrDay
  else if b = p.cmdWrMonth then .ok .cmdWrMonth
  else if b = p.cmdWrWeekday then .ok .cmdWrWeekday
  else if b = p.cmdWrYear then .ok .cmdWrYear
  else if b = p.cmdWrControl then .ok .cmdWrControl
  else .error .unknownCommand

/-- The write-protect data byte of pair 0 or pair 8 (R102, R180): that of the parameters (R6, log 25). -/
def decodeWriteProtect (p : Params) (on : Bool) (b : Byte) : Except DecodeError Instr :=
  if on then
    if b = p.wpOn then .ok .wpOn else .error .notWriteProtect
  else if b = p.wpOff then .ok .wpOff
  else .error .notWriteProtect

/-- QIDX (R109): `{prev, new}` in the low four bits. -/
def decodeTransition (b : Byte) : Except DecodeError Instr :=
  if b.toNat < 16 then .ok (transitionRow (b.extractLsb' 2 2) (b.extractLsb' 0 2)) else .error .highBits

/-- EVCODE (R112), in the low three bits. -/
def decodeEvent (b : Byte) : Except DecodeError Instr :=
  match b.toNat with
  | 0 => .ok .evNone
  | 1 => .ok .evRotateCW
  | 2 => .ok .evRotateCCW
  | 3 => .ok .evButtonDown
  | 4 => .ok .evButtonUp
  | 5 | 6 | 7 => .error .reservedEvent
  | _ => .error .highBits

/-- LREC (R113): kind in bits 2 and 1, direction in bit 0; None and Btn are read with any direction bit; kind 3 is
reserved. -/
def decodeRecord (b : Byte) : Except DecodeError Instr :=
  match b.toNat with
  | 0 | 1 => .ok .lrecNone
  | 2 => .ok .lrecRotPlus
  | 3 => .ok .lrecRotMinus
  | 4 | 5 => .ok .lrecBtn
  | 6 | 7 => .error .reservedRecord
  | _ => .error .highBits

/-- ERRCODE (R291), in the low three bits. -/
def decodeResult (b : Byte) : Except DecodeError Instr :=
  match b.toNat with
  | 0 => .ok .errOK
  | 1 => .ok .errTimeout
  | 2 => .ok .errChecksumMismatch
  | 3 => .ok .errRangeError
  | 4 => .ok .errTransportError
  | 5 | 6 | 7 => .error .reservedResult
  | _ => .error .highBits

/-- SFRAME (R91): five bytes in order of arrival; the row is the byte the format names. -/
def decodeFrame (n : Fin 5) : List Byte → Except DecodeError (Instr × List Byte)
  | b0 :: b1 :: b2 :: b3 :: b4 :: rest =>
    .ok (sframeRow n (match n with | 0 => b0 | 1 => b1 | 2 => b2 | 3 => b3 | 4 => b4), rest)
  | _ => .error .tooShort

/-- An instruction of one byte, and the bytes after it. -/
def oneByte (r : Except DecodeError Instr) (rest : List Byte) : Except DecodeError (Instr × List Byte) :=
  match r with
  | .ok i => .ok (i, rest)
  | .error e => .error e

/-- The decoder of a block with the parameters `p`: the instruction that the bytes begin with, and the bytes left. -/
def decode (p : Params) (f : Format) (bytes : List Byte) : Except DecodeError (Instr × List Byte) :=
  match f, bytes with
  | .sframe n, bs => decodeFrame n bs
  | _, [] => .error .tooShort
  | .hostop, b :: rest => decodeHostop b rest
  | .rcmd, b :: rest => oneByte (decodeCommand p b) rest
  | .wp on, b :: rest => oneByte (decodeWriteProtect p on b) rest
  | .rdata j, b :: rest => oneByte (.ok (rdataRow j b)) rest
  | .qidx, b :: rest => oneByte (decodeTransition b) rest
  | .evcode, b :: rest => oneByte (decodeEvent b) rest
  | .lrec, b :: rest => oneByte (decodeRecord b) rest
  | .errcode, b :: rest => oneByte (decodeResult b) rest

/-! ### The encoder -/

/-- The bytes of a number of the operand of WRITE_CLOCK: 0xFF for each 255 in it, then what is left (log 12). -/
def encodeNumber (v : Nat) : List Byte := List.replicate (v / 255) 0xFF ++ [BitVec.ofNat 8 (v % 255)]

/-- The operand of WRITE_CLOCK: its seven numbers in the order of the script line of R116 (log 12). -/
def clockOperandBytes (v : ClockValue) : List Byte :=
  [v.second, v.minute, v.hour, v.day, v.month, v.weekday, v.year].flatMap encodeNumber

/-- Two levels in the low bits of a code, `{a, b}` (R115). -/
def levelBits (a b : Bool) : Byte := BitVec.ofNat 8 (2 * a.toNat + b.toNat)

/-- The bytes of an instruction of a block with the parameters `p`; a micro-operation has none (R120). -/
def encode (p : Params) : Instr → List Byte
  | .readSensor => [0x10]
  | .readClock => [0x20]
  | .writeClock v => 0x30 :: clockOperandBytes v
  | .evPop => [0x40]
  | .evWaitRead => [0x50]
  | .rotEnable a b => [0x60 ||| levelBits a b]
  | .rotDisable => [0x70]
  | .encEdge a b => [0x80 ||| levelBits a b]
  | .btnEdge l => [0x90 ||| levelBits false l]
  | .hostopReserved op arg => [byteOf op arg]
  | .waitLevel _ => []
  | .sample => []
  | .rtcWriteByte _ => []
  | .rtcReadByte => []
  | .rtcPair _ _ => []
  | .burstRead => []
  | .evPush _ => []
  | .cmdBurstRead => [p.cmdBurstRead]
  | .cmdWrSeconds => [p.cmdWrSeconds]
  | .cmdWrMinutes => [p.cmdWrMinutes]
  | .cmdWrHours => [p.cmdWrHours]
  | .cmdWrDay => [p.cmdWrDay]
  | .cmdWrMonth => [p.cmdWrMonth]
  | .cmdWrWeekday => [p.cmdWrWeekday]
  | .cmdWrYear => [p.cmdWrYear]
  | .cmdWrControl => [p.cmdWrControl]
  | .wpOff => [p.wpOff]
  | .wpOn => [p.wpOn]
  | .rdataSeconds t u => [byteOf t u]
  | .rdataMinutes t u => [byteOf t u]
  | .rdataHours t u => [byteOf t u]
  | .rdataDay t u => [byteOf t u]
  | .rdataMonth t u => [byteOf t u]
  | .rdataWeekday t u => [byteOf t u]
  | .rdataYear t u => [byteOf t u]
  | .rdataControl t u => [byteOf t u]
  | .sframeHumInt b => [b, 0, 0, 0, 0]
  | .sframeHumFrac b => [0, b, 0, 0, 0]
  | .sframeTempInt b => [0, 0, b, 0, 0]
  | .sframeTempFrac b => [0, 0, 0, b, 0]
  | .sframeChecksum b => [0, 0, 0, 0, b]
  | .q_00_00 => [0x0]
  | .q_00_01 => [0x1]
  | .q_00_10 => [0x2]
  | .q_00_11 => [0x3]
  | .q_01_00 => [0x4]
  | .q_01_01 => [0x5]
  | .q_01_10 => [0x6]
  | .q_01_11 => [0x7]
  | .q_10_00 => [0x8]
  | .q_10_01 => [0x9]
  | .q_10_10 => [0xA]
  | .q_10_11 => [0xB]
  | .q_11_00 => [0xC]
  | .q_11_01 => [0xD]
  | .q_11_10 => [0xE]
  | .q_11_11 => [0xF]
  | .evNone => [0]
  | .evRotateCW => [1]
  | .evRotateCCW => [2]
  | .evButtonDown => [3]
  | .evButtonUp => [4]
  | .lrecNone => [0]
  | .lrecRotPlus => [2]
  | .lrecRotMinus => [3]
  | .lrecBtn => [4]
  | .errOK => [0]
  | .errTimeout => [1]
  | .errChecksumMismatch => [2]
  | .errRangeError => [3]
  | .errTransportError => [4]

/-- The format an instruction is written in; none for a micro-operation, which has no code (R120). -/
def formatOf : Instr → Option Format
  | .readSensor | .readClock | .writeClock _ | .evPop | .evWaitRead | .rotEnable _ _ | .rotDisable | .encEdge _ _
  | .btnEdge _ | .hostopReserved _ _ => some .hostop
  | .waitLevel _ | .sample | .rtcWriteByte _ | .rtcReadByte | .rtcPair _ _ | .burstRead | .evPush _ => none
  | .cmdBurstRead | .cmdWrSeconds | .cmdWrMinutes | .cmdWrHours | .cmdWrDay | .cmdWrMonth | .cmdWrWeekday
  | .cmdWrYear | .cmdWrControl => some .rcmd
  | .wpOff => some (.wp false)
  | .wpOn => some (.wp true)
  | .rdataSeconds _ _ => some (.rdata 0)
  | .rdataMinutes _ _ => some (.rdata 1)
  | .rdataHours _ _ => some (.rdata 2)
  | .rdataDay _ _ => some (.rdata 3)
  | .rdataMonth _ _ => some (.rdata 4)
  | .rdataWeekday _ _ => some (.rdata 5)
  | .rdataYear _ _ => some (.rdata 6)
  | .rdataControl _ _ => some (.rdata 7)
  | .sframeHumInt _ => some (.sframe 0)
  | .sframeHumFrac _ => some (.sframe 1)
  | .sframeTempInt _ => some (.sframe 2)
  | .sframeTempFrac _ => some (.sframe 3)
  | .sframeChecksum _ => some (.sframe 4)
  | .q_00_00 | .q_00_01 | .q_00_10 | .q_00_11 | .q_01_00 | .q_01_01 | .q_01_10 | .q_01_11 | .q_10_00 | .q_10_01
  | .q_10_10 | .q_10_11 | .q_11_00 | .q_11_01 | .q_11_10 | .q_11_11 => some .qidx
  | .evNone | .evRotateCW | .evRotateCCW | .evButtonDown | .evButtonUp => some .evcode
  | .lrecNone | .lrecRotPlus | .lrecRotMinus | .lrecBtn => some .lrec
  | .errOK | .errTimeout | .errChecksumMismatch | .errRangeError | .errTransportError => some .errcode

/-! ### A word of the opcode table -/

/-- The format in which a number of the opcode table is read. The table's number carries no format and the formats
overlap (0x80 is a HOSTOP code, a command byte and a data byte), so this is a convention (log 10): an assigned HOSTOP
code first, then a command byte, then a transition index, else a (reserved) HOSTOP code; 40 bits are a sensor frame. -/
def tableFormat (p : Params) (nbits w : Nat) : Option Format :=
  let b : Byte := BitVec.ofNat 8 w
  if nbits = 40 then some (.sframe 0)
  else if nbits = 8 then
    if hostopAssigned (highNibble b) (lowNibble b) then some .hostop
    else if (decodeCommand p b).toBool then some .rcmd
    else if b.toNat < 16 then some .qidx
    else some .hostop
  else none

/-- The bytes of a number of the opcode table as the block meets them: the byte of bits 39 to 32 of a frame arrives
first (R91); a shorter word is followed by operand bytes of zeros. -/
def tableBytes (nbits w : Nat) : List Byte :=
  if nbits = 40 then
    [BitVec.ofNat 8 (w >>> 32), BitVec.ofNat 8 (w >>> 24), BitVec.ofNat 8 (w >>> 16), BitVec.ofNat 8 (w >>> 8),
      BitVec.ofNat 8 w]
  else [BitVec.ofNat 8 w, 0, 0, 0, 0, 0, 0, 0]

/-- The instruction the decoder reads from the word `w` of `nbits` bits of the opcode table, whose values are the default
parameters. -/
def decodeTableWord (nbits w : Nat) : Option Instr :=
  match tableFormat Params.standard nbits w with
  | none => none
  | some f =>
    match decode Params.standard f (tableBytes nbits w) with
    | .ok (i, _) => some i
    | .error _ => none

end Sys2Proof
end

