-- ==== Sys2Proof/Machine/State.lean ====
section
/-! DEFINITION. The state of the block as plain data: every register of spec/10_state.md (rules R20 to R45 and R52),
grouped by unit, the environment's input, the event history of rule R79, and the parameters of rule R6. The docstring of
a field names the spec's register; "model's own" marks what is not the spec's. -/

namespace Sys2Proof.Machine

/-! ### Values of registers -/

/-- Positions of the sensor sequencer `S_SEQ` (R21). -/
inductive SSeq where
  | idle
  | wake
  | release
  | hs1
  | hs2
  | hs3
  | bitHi (i : Fin 40)
  | bitSample (i : Fin 40)
  | bitLo (i : Fin 40)
  | check
deriving DecidableEq, Repr

/-- Positions of the RTC sequencer `C_SEQ` (R25). -/
inductive CSeq where
  | idle
  | rCmd
  | rData (j : Fin 8)
  | rDecode
  | wCheck
  | wPair (p : Fin 9)
deriving DecidableEq, Repr

/-- The micro-step that is next within a bit on the RTC bus, after `load` for the byte as a whole (R163, R164, R167): model's
own, log 18. -/
inductive BitPhase where
  /-- `C_SHIFT` and `C_BITCNT` take the byte that begins. -/
  | load
  /-- RIO is driven to the bit (R163). -/
  | drive
  /-- The half-bit before the rising edge. -/
  | low
  /-- `Level(RIO)` is sampled (R164). -/
  | sample
  /-- `RCLK <- 1`. -/
  | rise
  /-- The turn-around of a read command: RIO is released (R167). -/
  | turn
  /-- The half-bit before the falling edge. -/
  | high
  /-- `RCLK <- 0`. -/
  | fall
deriving DecidableEq, Repr

/-- The micro-step that is next within a position of `C_SEQ` (R161, R165, R166): model's own, log 18. -/
inductive CPhase where
  /-- The position has only been entered: `RCE <- 1` is next where it opens a window. -/
  | rest
  /-- The half-bit after RCE rose. -/
  | lead
  /-- In the command byte. -/
  | command (q : BitPhase)
  /-- In the data byte. -/
  | data (q : BitPhase)
  /-- The half-bit before RCE falls. -/
  | trail
  /-- `RCE <- 0`. -/
  | close
  /-- `SetInput(RIO)` after a pair (R165). -/
  | settle
  /-- `Release(BUSLOCK)`. -/
  | finish
deriving DecidableEq, Repr

/-- What the block does to a bidirectional pin (R42, R43). -/
inductive Drive where
  | drive0
  | drive1
  | input
deriving DecidableEq, Repr

/-- The two bus engines (R8). -/
inductive Engine where
  | sensor
  | rtc
deriving DecidableEq, Repr

/-- `BUSLOCK` (R39). -/
inductive Lock where
  | free
  | held (e : Engine)
deriving DecidableEq, Repr

/-- Result codes of `SERR` and `CERR` (R291); codes 5 to 7 do not exist. -/
inductive ErrCode where
  | ok
  | timeout
  | checksumMismatch
  | rangeError
  | transportError
deriving DecidableEq, Repr

/-- The number of a result code (R291). -/
def ErrCode.code : ErrCode → BitVec 3
  | .ok => 0
  | .timeout => 1
  | .checksumMismatch => 2
  | .rangeError => 3
  | .transportError => 4

/-- A PendingEvent, the value of `EV_SLOT` (R36); the reserved codes 5 to 7 are unrepresentable (R112). -/
inductive PendingEvent where
  | none
  | rotateCW
  | rotateCCW
  | buttonDown
  | buttonUp
deriving DecidableEq, Repr

/-- The number of a PendingEvent (R112). -/
def PendingEvent.code : PendingEvent → BitVec 3
  | .none => 0
  | .rotateCW => 1
  | .rotateCCW => 2
  | .buttonDown => 3
  | .buttonUp => 4

/-- `LASTEV.kind` (R37); kind 3 is unrepresentable (R113). -/
inductive RecordKind where
  | none
  | rot
  | btn
deriving DecidableEq, Repr

/-- `LASTEV` (R37): the direction bit is 0 for +1 and 1 for -1. -/
structure Record where
  kind : RecordKind
  dir : Bool
deriving DecidableEq, Repr

/-- One bit for each interrupt source of R301: `IRQ_PEND` (R41), and the environment's choice of R304. -/
structure IrqSet where
  encA : Bool
  encB : Bool
  btn : Bool
deriving DecidableEq, Repr

/-- The interrupt sources (R301). -/
inductive Source where
  | encA
  | encB
  | btn
deriving DecidableEq, Repr

/-- The two execution contexts (R300). -/
inductive Context where
  | task
  | interrupt
deriving DecidableEq, Repr

/-- A bus operation that waits (R52, R70). A waiting WRITE_CLOCK keeps the value given at its call (R29). -/
inductive Request where
  | readSensor
  | readClock
  | writeClock (v : ClockValue)
deriving DecidableEq, Repr

/-- One answer of the sensor (R62): a waveform given as level and duration, after which the line idles high, or the
outcome of the transfer, a frame or a timeout at a wait step. -/
inductive SensorAnswer where
  | wave (w : List (Bool × Nat))
  | frame (f : Vector Byte 5)
  | timeoutAt (k : Nat)
deriving DecidableEq, Repr

/-- An entry of the event history (R79). -/
inductive Event where
  | memRead (cmd : Byte) (bytes : Vector Byte 8)
  | memWrite (cmd v : Byte)
  | sensorFrame (f : Vector Byte 5)
  | sensorTimeout (k : Nat)
  | push (e : PushEvent)
  | pop (e : PendingEvent)
  | waitRead (r : Record)
deriving DecidableEq, Repr

/-! ### The script: what the host and the environment do (model's own, log 9) -/

/-- What a line tells of the environment besides its code (R116). -/
inductive EnvItem where
  /-- The sensor's answer to the next transfer that has none yet (R62). -/
  | sensorAnswer (a : SensorAnswer)
  /-- Bytes the RTC device will present, least significant bit first (R66, R68). -/
  | rtcBytes (bs : List Byte)
  /-- Which sources' masked edges are kept from now on (R304). -/
  | keep (k : IrqSet)
deriving DecidableEq, Repr

/-- How an operation is taken: run to its end with no other agent's step between its micro-steps, or issued only, its
micro-steps left to later steps (log 8). -/
inductive LineMode where
  | run
  | issue
deriving DecidableEq, Repr

/-- A script line (R116): one code with its operand bytes, the TIME it is served at if it has one (ENC and BTN lines must),
and the context it is issued from. -/
structure Line where
  mode : LineMode
  time : Option Nat
  ctx : Context
  env : List EnvItem
  fmt : Format
  bytes : List Byte
deriving DecidableEq, Repr

/-- A choice of which agent moves (R75, R303): an engine (the sensor engine with the TIME its position is asked to end
at, log 17), the `n`-th waiting request, a blocked reader, or a held edge. -/
inductive Pick where
  | sensor (want : Option Nat)
  | rtc
  | grant (n : Nat)
  | reader
  | late (src : Source)
deriving DecidableEq, Repr

/-- An item of the script: a line, the choice of an agent, or the pseudo-operation STEP_CW (`cw = true`) or STEP_CCW at a
TIME, which becomes its line when its turn comes (R117). -/
inductive Item where
  | line (l : Line)
  | pick (p : Pick)
  | stepEdge (t : Nat) (cw : Bool)
deriving DecidableEq, Repr

/-! ### The registers, unit by unit -/

/-- The sensor engine (R21 to R24). -/
structure SensorRegs where
  /-- `S_SEQ` -/
  seq : SSeq
  /-- `FRAME[0..4]` -/
  frame : Vector Byte 5
  /-- `S_BITCNT`, 0 to 40 -/
  bitcnt : Nat
  /-- `SRES.valid` -/
  valid : Bool
  /-- `SRES.temperature` -/
  temperature : Byte
  /-- `SRES.humidity` -/
  humidity : Byte
  /-- `SERR` -/
  serr : ErrCode
  /-- `SERR_STEP`, 0 to 83 -/
  serrStep : Nat
deriving DecidableEq, Repr

/-- The RTC engine (R25 to R29). -/
structure RtcRegs where
  /-- `C_SEQ` -/
  seq : CSeq
  /-- The micro-step that is next within the position: model's own, log 18. -/
  phase : CPhase
  /-- `CBUF[0..7]` -/
  cbuf : Vector Byte 8
  /-- `C_SHIFT` -/
  shift : Byte
  /-- `C_BITCNT`, 0 to 8 -/
  bitcnt : Nat
  /-- `CRES.valid` -/
  valid : Bool
  /-- the seven fields of `CRES` -/
  clock : ClockValue
  /-- `CERR` -/
  cerr : ErrCode
  /-- `WBUF` -/
  wbuf : ClockValue
deriving DecidableEq, Repr

/-- The quadrature decoder (R30 to R33). -/
structure QuadRegs where
  /-- `Q_PREV` -/
  prev : RawState
  /-- `Q_ACC` -/
  acc : Int
  /-- `Q_LAST` -/
  last : Option Nat
  /-- `ROT_EN` -/
  rotEn : Bool
deriving DecidableEq, Repr

/-- The button latch (R34, R35). -/
structure ButtonRegs where
  /-- `B_LATCH` -/
  latch : Bool
  /-- `B_LAST` -/
  last : Option Nat
deriving DecidableEq, Repr

/-- The event channel (R36 to R38). -/
structure ChannelRegs where
  /-- `EV_SLOT` -/
  slot : PendingEvent
  /-- `LASTEV` -/
  record : Record
  /-- `EV_AVAIL` -/
  avail : Bool
deriving DecidableEq, Repr

/-- Control state (R39 to R41, R52, R300). -/
structure ControlRegs where
  /-- `BUSLOCK` -/
  lock : Lock
  /-- `IRQ_MASK` -/
  mask : Bool
  /-- `IRQ_PEND` -/
  pend : IrqSet
  /-- the context the present operation is issued from (R300, R311) -/
  ctx : Context
  /-- the requests waiting for `BUSLOCK`, oldest first (R52, R70) -/
  waiting : List Request
  /-- how many EV_WAIT_READ calls are blocked (R52, R254) -/
  readers : Nat
deriving DecidableEq, Repr

/-- The pins (R42 to R44): what the block drives, and the levels the environment gives the three inputs. -/
structure Pins where
  /-- `SDATA` -/
  sdata : Drive
  /-- `RCE` -/
  rce : Bool
  /-- `RCLK` -/
  rclk : Bool
  /-- `RIO` -/
  rio : Drive
  /-- level of `ENC_A` -/
  encA : Bool
  /-- level of `ENC_B` -/
  encB : Bool
  /-- level of `BTN` -/
  btn : Bool
deriving DecidableEq, Repr

/-- The environment's and the host's input (model's own, log 9). -/
structure Env where
  /-- The sensor's answers, one a transfer; with none left the line idles high (log 6). -/
  sensorIn : List SensorAnswer
  /-- The bits the RTC device presents next; with none left RIO floats (log 5). -/
  rioIn : List Bool
  /-- Which sources' masked edges are kept (R304, log 14). -/
  keep : IrqSet
  /-- What happens next, first item first (log 9). -/
  script : List Item
deriving DecidableEq, Repr

/-- Model's own registers: the sensor engine's clock (log 16), what its micro-operations return to it (log 26), and the
counter of free values (log 4). -/
structure Aux where
  /-- The TIME at which the sensor engine entered its position. -/
  sClock : Nat
  /-- The TIME at which it entered `HS1`, where the waveform begins (R62). -/
  sHs1 : Nat
  /-- The result of the last WAIT_LEVEL: ok or timeout (R140). -/
  waitOk : Bool
  /-- The result of the last SAMPLE (R137). -/
  sampled : Bool
  /-- How many free values have been read. -/
  freeCtr : Nat
deriving DecidableEq, Repr

/-- What the block did to the outside: the event history (R79), and the levels of RIO at the rising edges of RCLK
(R163, R164, log 29). -/
structure Trace where
  history : List Event
  rioLog : List Bool
deriving DecidableEq, Repr

/-- The state of the block (R20), TIME (R45), and the model's own parts. -/
structure State where
  sensor : SensorRegs
  rtc : RtcRegs
  quad : QuadRegs
  button : ButtonRegs
  chan : ChannelRegs
  ctl : ControlRegs
  pins : Pins
  time : Nat
  env : Env
  aux : Aux
  trace : Trace
  /-- The parameters (R6, R10): no step writes them (log 1). -/
  cfg : Params
deriving DecidableEq, Repr

/-- The machine never faults: an error of the block is a result of an operation (R290, R306), so there is no reason a
step could fault with. Safe: nothing is cut short. -/
inductive Fault where
deriving DecidableEq, Repr

/-- Why a step is refused. -/
inductive Refusal where
  /-- Raised by an arm of `exec` that has no meaning yet; no arm is. Safe: the machine stops. -/
  | notModelled (mnemonic : String)
  /-- Raised by HOSTOP_RESERVED: "a model's script reader refuses them" (R115, R118, U8). Safe: the machine stops. -/
  | reservedCode (op arg : Nibble)
  /-- Raised by `step` when the decoder of a line's format answers no instruction (R112, R113, R118). Safe: the machine
  stops. -/
  | unreadableLine (e : DecodeError)
  /-- Raised by `step` for an ENC or BTN line that has no TIME, which R116 requires (log 33). Safe: the machine stops. -/
  | edgeLineWithoutTime
  /-- Raised by READ_SENSOR, READ_CLOCK and WRITE_CLOCK in interrupt context (R311, R346, U17), and by the
  micro-operations and codes of the two buses, which wait or drive a pin (R311, log 15). Safe: the machine stops. -/
  | busOperationFromHandler
  /-- Raised by EV_POP, EV_WAIT_READ, ROT_ENABLE and ROT_DISABLE in interrupt context, and by the event and record codes,
  which are results of the first two: a host operation is issued by no handler (R266, log 15). Safe: the machine
  stops. -/
  | hostOperationFromHandler
  /-- Raised by ERR_TransportError, the result code of a unit outside the block (R295, U7). Safe: the machine stops. -/
  | transportErrorOutsideBlock
deriving DecidableEq, Repr

/-! ### Reset -/

/-- A ClockValue of zeros: what `CRES` and `WBUF` hold at reset, where R47 gives no value (log 3). -/
def zeroClock : ClockValue := ⟨0, 0, 0, 0, 0, 0, 0⟩

/-- No source: `IRQ_PEND` at reset (R47). -/
def noIrq : IrqSet := ⟨false, false, false⟩

/-- The block right after RESET (R47, R330, R331) with the parameters `p`. R304 leaves it to the environment whether a
masked edge is lost or late; until a line says otherwise, every one is lost (DESIGN CHOICE, log 14). -/
def resetWith (p : Params) : State where
  sensor :=
    { seq := .idle, frame := Vector.replicate 5 0, bitcnt := 0, valid := false, temperature := 0, humidity := 0,
      serr := .ok, serrStep := 0 }
  rtc :=
    { seq := .idle, phase := .rest, cbuf := Vector.replicate 8 0, shift := 0, bitcnt := 0, valid := false,
      clock := zeroClock, cerr := .ok, wbuf := zeroClock }
  quad := { prev := 0, acc := 0, last := none, rotEn := false }
  button := { latch := false, last := none }
  chan := { slot := .none, record := ⟨.none, false⟩, avail := false }
  ctl := { lock := .free, mask := false, pend := noIrq, ctx := .task, waiting := [], readers := 0 }
  pins := { sdata := .input, rce := false, rclk := false, rio := .input, encA := false, encB := false, btn := false }
  time := 0
  env := { sensorIn := [], rioIn := [], keep := noIrq, script := [] }
  aux := { sClock := 0, sHs1 := 0, waitOk := true, sampled := false, freeCtr := 0 }
  trace := { history := [], rioLog := [] }
  cfg := p

/-- The block right after RESET (R47, R330, R331). -/
def State.reset : State := resetWith Params.standard

end Sys2Proof.Machine
end

