-- ==== Sys2Proof/Machine/Operands.lean ====
section
/-! DEFINITION. The operand forms and value computations of the block (R260): bit assembly and BCD (spec/30_encoding.md),
the transition table, the waveform of the sensor's line, and the bytes of a clock write. -/

namespace Sys2Proof.Machine

/-! ### Bits of a byte -/

/-- The bits of a byte as the RTC bus carries them, least significant first (R68). -/
def lsbBits (b : Byte) : List Bool :=
  [b.getLsbD 0, b.getLsbD 1, b.getLsbD 2, b.getLsbD 3, b.getLsbD 4, b.getLsbD 5, b.getLsbD 6, b.getLsbD 7]

/-- `v[i] <- bit` of RTC_READ_BYTE (R164), on a byte whose bit `i` is 0. -/
def putBit (v : Byte) (i : Nat) (bit : Bool) : Byte := v ||| (BitVec.ofNat 8 bit.toNat <<< i)

/-- `{v[6:0], bit}`: the bit that arrives becomes bit 0, the first of eight ends as bit 7 (R92, R138). -/
def shiftIn (v : Byte) (bit : Bool) : Byte := v.extractLsb' 0 7 ++ BitVec.ofBool bit

/-- Frame bit `i`, 0 to 39 in order of arrival: bit `7 - (i mod 8)` of byte `i div 8` (R92). -/
def frameBit (f : Vector Byte 5) (i : Fin 40) : Bool :=
  (f[i.val / 8]'(by omega)).getLsbD (7 - i.val % 8)

/-- The frame with the bit `i` that arrived shifted in (R138). -/
def storeBit (f : Vector Byte 5) (i : Fin 40) (bit : Bool) : Vector Byte 5 :=
  f.set (i.val / 8) (shiftIn (f[i.val / 8]'(by omega)) bit) (by omega)

/-! ### BCD -/

/-- `bcd_dec(b) = 10 * b[7:4] + b[3:0]`, no check of the nibbles (R95, R98). -/
def bcdDec (b : Byte) : Nat := 10 * (highNibble b).toNat + (lowNibble b).toNat

/-- `bcd_enc(v) = {(v div 10)[3:0], (v mod 10)[3:0]}` (R96). -/
def bcdEnc (v : Nat) : Byte := BitVec.ofNat 4 (v / 10) ++ BitVec.ofNat 4 (v % 10)

/-- The hour of a 12-hour byte, `bcd_dec(b[4:0])` (R106). -/
def hour12Of (b : Byte) : Nat := bcdDec (BitVec.setWidth 8 (b.extractLsb' 0 5))

/-- `hour_dec(b)` (R171): bit 7 selects the form (R105), bit 5 is PM and bit 6 is ignored (R106); none is `invalid`. -/
def hourDec (policy : HourPolicy) (b : Byte) : Option Nat :=
  if b.getLsbD 7 then
    match policy with
    | .reconstruct =>
      if hour12Of b < 1 || hour12Of b > 12 then none
      else some (hour12Of b % 12 + 12 * (b.getLsbD 5).toNat)
    | .reject => none
  else some (bcdDec b)

/-- Byte `j` of a burst read as it goes to the decode, with the mask of its location applied (R103). -/
def maskedByte (p : Params) (buf : Vector Byte 8) (j : Fin 7) : Byte :=
  buf[j.val]'(by omega) &&& p.mask[j.val]

/-- The decode of READ_CLOCK (R170 to R172): seconds, minutes and hours are range-checked, the other fields and the
control byte are not (R175); none is RangeError. -/
def clockDec (p : Params) (buf : Vector Byte 8) : Option ClockValue :=
  match hourDec p.hour12 (maskedByte p buf 2) with
  | none => none
  | some h =>
    if bcdDec (maskedByte p buf 0) > 59 || bcdDec (maskedByte p buf 1) > 59 || h > 23 then none
    else some
      { second := bcdDec (maskedByte p buf 0)
        minute := bcdDec (maskedByte p buf 1)
        hour := h
        day := bcdDec (maskedByte p buf 3)
        month := bcdDec (maskedByte p buf 4)
        weekday := bcdDec (maskedByte p buf 5)
        year := bcdDec (maskedByte p buf 6) }

/-- `in_range(v)` of WRITE_CLOCK (R181). -/
def inRange (v : ClockValue) : Bool :=
  decide (v.second ≤ 59) && decide (v.minute ≤ 59) && decide (v.hour ≤ 23) &&
  decide (1 ≤ v.day) && decide (v.day ≤ 31) && decide (1 ≤ v.month) && decide (v.month ≤ 12) &&
  decide (1 ≤ v.weekday) && decide (v.weekday ≤ 7) && decide (v.year ≤ 99)

/-- The command byte of pair `p` of WRITE_CLOCK (R180). -/
def pairCommand (c : Params) (p : Fin 9) : Byte :=
  match p with
  | 0 => c.cmdWrControl
  | 1 => c.cmdWrSeconds
  | 2 => c.cmdWrMinutes
  | 3 => c.cmdWrHours
  | 4 => c.cmdWrDay
  | 5 => c.cmdWrMonth
  | 6 => c.cmdWrWeekday
  | 7 => c.cmdWrYear
  | 8 => c.cmdWrControl

/-- The data byte of pair `p` of WRITE_CLOCK: write-protect off, the seven fields in BCD, write-protect on (R180, R107). -/
def pairData (c : Params) (v : ClockValue) (p : Fin 9) : Byte :=
  match p with
  | 0 => c.wpOff
  | 1 => bcdEnc v.second
  | 2 => bcdEnc v.minute
  | 3 => bcdEnc v.hour
  | 4 => bcdEnc v.day
  | 5 => bcdEnc v.month
  | 6 => bcdEnc v.weekday
  | 7 => bcdEnc v.year
  | 8 => c.wpOn

/-! ### The encoder's table -/

/-- `state = {a, b} = 2 * a + b` (R108). -/
def rawState (a b : Bool) : RawState := BitVec.ofBool a ++ BitVec.ofBool b

/-- `idx = {Q_PREV, new} = 4 * Q_PREV + new` (R109). -/
def transitionIndex (prev new : RawState) : BitVec 4 := prev ++ new

/-- QTABLE with `DIR_SWAP = false`, listed by index (R110). -/
def qtable : List Int := [0, -1, 1, 0, 1, 0, 0, -1, -1, 0, 0, 1, 0, 1, -1, 0]

/-- `QTABLE[{prev, new}]`: +1, -1 or 0, negated when `DIR_SWAP` is true (R109, R110). -/
def transitionStep (dirSwap : Bool) (prev new : RawState) : Int :=
  let d := qtable.getD (transitionIndex prev new).toNat 0
  if dirSwap then -d else d

/-! ### Wait steps and the sensor's line -/

/-- The number of a wait step (R21): none where the sequencer waits for no level. -/
def waitStep : SSeq → Option Nat
  | .hs1 => some 1
  | .hs2 => some 2
  | .hs3 => some 3
  | .bitHi i => some (4 + 2 * i.val)
  | .bitLo i => some (5 + 2 * i.val)
  | _ => none

/-- The level of a waveform `n` microseconds after it began; after its last segment the line idles high (R62). -/
def waveLevel : List (Bool × Nat) → Nat → Bool
  | [], _ => true
  | (l, d) :: rest, n => if n < d then l else waveLevel rest (n - d)

/-- The level of SDATA: 0 when the block or the sensor drives it low, 1 otherwise (R61). -/
def sdataLevel (d : Drive) (w : List (Bool × Nat)) (n : Nat) : Bool :=
  decide (d ≠ .drive0) && waveLevel w n

/-- The loop of WAIT_LEVEL (R140) from time `now`, with `fuel` polls left: the time at which the level was found, none
when the polls ran out. -/
def pollUntil (level : Nat → Bool) (v : Bool) (poll : Nat) : Nat → Nat → Option Nat
  | 0, now => if level now = v then some now else none
  | fuel + 1, now => if level now = v then some now else pollUntil level v poll fuel (now + poll)

/-! ### Events -/

/-- The slot code an event is posted as (R112). -/
def slotOf : PushEvent → PendingEvent
  | .rotateCW => .rotateCW
  | .rotateCCW => .rotateCCW
  | .buttonDown => .buttonDown
  | .buttonUp => .buttonUp

/-- The record an event is posted as (R113, R253): none for a ButtonUp when `LASTEV_ON_BUTTON_UP` is false. -/
def recordOf (onUp : Bool) : PushEvent → Option Record
  | .rotateCW => some ⟨.rot, false⟩
  | .rotateCCW => some ⟨.rot, true⟩
  | .buttonDown => some ⟨.btn, false⟩
  | .buttonUp => if onUp then some ⟨.btn, false⟩ else none

/-- The text of a record (R113), made by software outside the block. -/
def recordText (r : Record) : String :=
  match r.kind, r.dir with
  | .rot, false => "ROT +1"
  | .rot, true => "ROT -1"
  | .btn, _ => "BTN"
  | .none, _ => "NONE"

end Sys2Proof.Machine
end

