-- ==== Sys2Proof/Machine/Flags.lean ====
section
/-! DEFINITION. The tests that steer the block (R260, R264): the checksum, the two time windows, the detent thresholds,
and which agent may move. There are no arithmetic condition codes (R49). -/

namespace Sys2Proof.Machine

/-- The checksum of R93: the low 8 bits of the sum of bytes 0 to 3. -/
def checksumOf (f : Vector Byte 5) : Byte :=
  BitVec.ofNat 8 ((f[0].toNat + f[1].toNat + f[2].toNat + f[3].toNat) % 256)

/-- The frame is good: byte 4 is the checksum (R93, R141). -/
def checksumGood (f : Vector Byte 5) : Bool := decide (f[4] = checksumOf f)

/-- `last = some(t0) and t - t0 < window`: strictly below, never without an earlier event (R203, R233, D23). -/
def within (window : Nat) (last : Option Nat) (t : Nat) : Bool :=
  match last with
  | none => false
  | some t0 => decide (t - t0 < window)

/-- `BUSLOCK = free` and the sensor engine idle: a READ_SENSOR can begin (R70). -/
def sensorReady (s : State) : Bool := decide (s.ctl.lock = .free) && decide (s.sensor.seq = .idle)

/-- The RTC engine runs no operation: it is idle, or a WRITE_CLOCK waits at `W_CHECK`, which bars no other waiter (R70,
log 13). -/
def rtcFree (s : State) : Bool := decide (s.rtc.seq = .idle) || decide (s.rtc.seq = .wCheck)

/-- `BUSLOCK = free` and the RTC engine runs nothing: a READ_CLOCK can begin (R70, log 13). -/
def rtcReady (s : State) : Bool := decide (s.ctl.lock = .free) && rtcFree s

/-- The RTC engine has a micro-step: it is running, and not waiting at `W_CHECK` for the lock (R70, R180). -/
def rtcEnabled (s : State) : Bool :=
  match s.rtc.seq with
  | .idle => false
  | .wCheck => decide (s.ctl.lock = .free)
  | _ => true

/-- A request can begin: WRITE_CLOCK's operand check needs the engine and not the lock (R180, R181, log 13). -/
def requestReady (r : Request) (s : State) : Bool :=
  match r with
  | .readSensor => sensorReady s
  | .readClock => rtcReady s
  | .writeClock _ => rtcFree s

/-- Bit of a source (R41). -/
def IrqSet.get (k : IrqSet) : Source → Bool
  | .encA => k.encA
  | .encB => k.encB
  | .btn => k.btn

/-- The set without a source. -/
def IrqSet.clear (k : IrqSet) : Source → IrqSet
  | .encA => { k with encA := false }
  | .encB => { k with encB := false }
  | .btn => { k with btn := false }

end Sys2Proof.Machine
end

