-- ==== Sys2Proof/Machine/Ops.lean ====
section
/-! DEFINITION. The named operations over the state: TIME and the pins (R13), the micro-steps of a byte on the RTC bus (R163, R164),
the oracles' answers (R62, R66), the lock (R70), the event history (R79), and RAISING AN ERROR (R15, R296), the block's
one form of exception: three shared operations, one for each kind of running operation. There is no return from an error
(R299). -/

namespace Sys2Proof.Machine

/-! ### TIME, pins and history -/

/-- `Delay(n)` (R13). -/
def delay (n : Nat) (s : State) : State := { s with time := s.time + n }

/-- TIME moves on to `t`, never back (R45). -/
def timeTo (t : Nat) (s : State) : State := { s with time := max s.time t }

/-- `DriveLow`, `DriveHigh` and `SetInput` of SDATA (R13). -/
def driveSdata (d : Drive) (s : State) : State := { s with pins.sdata := d }

/-- `DriveLow`, `DriveHigh` and `SetInput` of RIO (R13). -/
def driveRio (d : Drive) (s : State) : State := { s with pins.rio := d }

/-- `RCE <- v` (R161). -/
def setRce (v : Bool) (s : State) : State := { s with pins.rce := v }

/-- The drive of a pin that is to carry a bit (R163). -/
def driveOf (bit : Bool) : Drive := if bit then .drive1 else .drive0

/-- An entry joins the event history (R79). -/
def recordEvent (e : Event) (s : State) : State := { s with trace.history := s.trace.history ++ [e] }

/-- `RCLK <- 1`, with `level` on RIO (R163, R164). -/
def clockRise (level : Bool) (s : State) : State :=
  { s with pins.rclk := true, trace.rioLog := s.trace.rioLog ++ [level] }

/-- `RCLK <- 0`. -/
def clockFall (s : State) : State := { s with pins.rclk := false }

/-- A free value was read: the next one is another (log 4). -/
def useFree (n : Nat) (s : State) : State := { s with aux.freeCtr := s.aux.freeCtr + n }

/-! ### Bytes on the RTC bus -/

/-- `Level(RIO)` (R13, R164): what the block drives, else the next bit the device presents, else a free value (U14,
log 5). -/
def rioLevel (s : State) : Bool :=
  match s.pins.rio with
  | .drive0 => false
  | .drive1 => true
  | .input => s.env.rioIn.headD (Config.freeLevel s.aux.freeCtr)

/-- `v[i] <- Level(RIO)` (R164): the level goes to the next bit of `C_SHIFT`, and the device moves to its next bit. -/
def sampleRio (s : State) : State :=
  useFree 1
    { s with
      rtc.shift := putBit s.rtc.shift s.rtc.bitcnt (rioLevel s)
      env.rioIn := s.env.rioIn.tail }

/-- A byte on the RTC bus: sent (R163), with the turn-around of a read command or without it (R167), or received (R164). -/
inductive ByteKind where
  | out (b : Byte) (turn : Bool)
  | into
deriving DecidableEq, Repr

/-- What `C_SHIFT` holds as the byte begins: the byte to be sent (R163), or no bit yet (R164). -/
def ByteKind.start : ByteKind → Byte
  | .out b _ => b
  | .into => 0

/-- The bit at hand: `C_BITCNT` counts the bits of `C_SHIFT`, least significant first (R163, R164). -/
def bitAtHand (s : State) : Bool := s.rtc.shift.getLsbD s.rtc.bitcnt

/-- One micro-step of a byte (R163, R164, R167): a single primitive on a pin or on TIME (R13). -/
def bitAct (k : ByteKind) (q : BitPhase) (s : State) : State :=
  match q with
  | .load => { s with rtc.shift := k.start, rtc.bitcnt := 0 }
  | .drive => driveRio (driveOf (bitAtHand s)) s
  | .low => delay s.cfg.tHalfbit s
  | .sample => sampleRio s
  | .rise => clockRise (bitAtHand s) s
  | .turn => driveRio .input s
  | .high => delay s.cfg.tHalfbit s
  | .fall => { clockFall s with rtc.bitcnt := s.rtc.bitcnt + 1 }

/-- The first micro-step of a bit: a bit that is sent is set up before its half-bit, one that is received is not. -/
def ByteKind.bitStart : ByteKind → BitPhase
  | .out _ _ => .drive
  | .into => .low

/-- The micro-step after `q`, which left `n` in `C_BITCNT`; none when the byte is over (R163, R164). The turn-around stands
between the two edges of the eighth clock (R167), which leaves open where between them: RIO is released at once after the
rising edge, before the high half-bit (DESIGN CHOICE, log 36). -/
def nextPhase (k : ByteKind) (q : BitPhase) (n : Nat) : Option BitPhase :=
  match q with
  | .load => some k.bitStart
  | .drive => some .low
  | .low =>
    match k with
    | .out _ _ => some .rise
    | .into => some .sample
  | .sample => some .rise
  | .rise =>
    match k with
    | .out _ true => if n = 7 then some .turn else some .high
    | _ => some .high
  | .turn => some .high
  | .high => some .fall
  | .fall => if n < 8 then some k.bitStart else none

/-- The micro-steps of a byte from `q` to its end, at most `n` of them. -/
def runByte (k : ByteKind) : Nat → BitPhase → State → State
  | 0, _, s => s
  | n + 1, q, s =>
    match nextPhase k q (bitAct k q s).rtc.bitcnt with
    | some q' => runByte k n q' (bitAct k q s)
    | none => bitAct k q s

/-- How many micro-steps a byte has at most: its load, five for each bit, a turn-around. -/
def byteTicks : Nat := 42

/-- `RTC_WRITE_BYTE(b)` (R163), with the turn-around of a read command (R167) when `turn` is true. -/
def writeByte (turn : Bool) (b : Byte) (s : State) : State := runByte (.out b turn) byteTicks .load s

/-- `RTC_READ_BYTE()` (R164): the result is in `C_SHIFT`. -/
def readByte (s : State) : State := runByte .into byteTicks .load s

/-! ### The lock -/

/-- `Acquire(BUSLOCK)` by an engine that finds it free (R70). -/
def acquire (e : Engine) (s : State) : State := { s with ctl.lock := .held e }

/-- `Release(BUSLOCK)` (R70): frees the lock if the engine held it. -/
def releaseLock (e : Engine) (s : State) : State :=
  if s.ctl.lock = .held e then { s with ctl.lock := .free } else s

/-- A request that cannot begin waits; nothing else happens (R70: it blocks, it is not refused). -/
def enqueue (r : Request) (s : State) : State := { s with ctl.waiting := s.ctl.waiting ++ [r] }

/-! ### The sensor's answers -/

/-- The answer to the transfer that runs or comes next (R62); with none given the line idles high (log 6). -/
def sensorAnswer (s : State) : SensorAnswer := s.env.sensorIn.headD (.wave [])

/-- The transfer is over: the next one has an answer of its own (R62). -/
def dropAnswer (s : State) : State := { s with env.sensorIn := s.env.sensorIn.tail }

/-! ### Ending an operation and raising an error (R296) -/

/-- The exit actions every READ_SENSOR ends with (R130, R296): mask cleared, SDATA input, sequencer idle, lock freed. -/
def sensorExit (s : State) : State :=
  dropAnswer (releaseLock .sensor { driveSdata .input s with ctl.mask := false, sensor.seq := .idle })

/-- READ_SENSOR ends with an error (R130, R142, R296): the result is invalid, its values unspecified (U4, log 4). -/
def raiseSensor (e : ErrCode) (k : Nat) (s : State) : State :=
  useFree 2
    (sensorExit
      { s with
        sensor.valid := false
        sensor.temperature := Config.freeByte s.aux.freeCtr
        sensor.humidity := Config.freeByte (s.aux.freeCtr + 1)
        sensor.serr := e
        sensor.serrStep := k })

/-- READ_SENSOR ends well (R130, R142): the reading is written as a whole. -/
def finishSensor (s : State) : State :=
  sensorExit
    { s with
      sensor.valid := true
      sensor.temperature := s.sensor.frame[2]
      sensor.humidity := s.sensor.frame[0]
      sensor.serr := .ok
      sensor.serrStep := 0 }

/-- A ClockValue of which nothing is known (U4, log 4). -/
def freeClock (n : Nat) : ClockValue :=
  ⟨Config.freeNumber n, Config.freeNumber (n + 1), Config.freeNumber (n + 2), Config.freeNumber (n + 3),
    Config.freeNumber (n + 4), Config.freeNumber (n + 5), Config.freeNumber (n + 6)⟩

/-- READ_CLOCK ends with RangeError (R170, R174, R296): the result is invalid, its fields unspecified. The bus is
already idle and the lock free (R174). -/
def raiseReadClock (s : State) : State :=
  useFree 7
    { s with
      rtc.valid := false
      rtc.clock := freeClock s.aux.freeCtr
      rtc.cerr := .rangeError
      rtc.seq := .idle }

/-- WRITE_CLOCK ends with RangeError (R180, R181, R296): no pin moved, the lock was not taken, CRES is not touched. -/
def raiseWriteClock (s : State) : State := { s with rtc.cerr := .rangeError, rtc.seq := .idle }

/-! ### Contexts -/

/-- An operation that only a task-context caller may issue (R300, R311, R266). -/
def taskOnly (r : Refusal) (s : State) (o : Host.Outcome State Fault Refusal) : Host.Outcome State Fault Refusal :=
  match s.ctl.ctx with
  | .task => o
  | .interrupt => .refused r

/-- A step of a bus operation, be it one micro-operation or code of it: it waits or drives pins, so no handler may take it
(R311, log 15). -/
def busStep (f : State → State) (s : State) : Host.Outcome State Fault Refusal :=
  taskOnly .busOperationFromHandler s (.next (f s))

/-- A handler runs in interrupt context, in one atomic step, and what it interrupted goes on in its own (R300, R302). -/
def inHandler (f : State → State) (s : State) : State :=
  { f { s with ctl.ctx := .interrupt } with ctl.ctx := s.ctl.ctx }

/-- A micro-step that the code at hand selects only in its place; elsewhere there is no step (log 11). -/
def inPlace (here : Bool) (f : State → State) (s : State) : State := if here then f s else s

end Sys2Proof.Machine
end

