-- ==== Sys2Proof/Machine/EventChannel.lean ====
section
/-! DEFINITION. The event channel (spec/44_event_channel.md): one push feeds the slot and the record; EV_POP empties the
slot, EV_WAIT_READ the record; neither touches the other (R250, R257). -/

namespace Sys2Proof.Machine

/-- `EV_SLOT <- e` (R36): unconditionally, whatever was there (R251). -/
def setSlot (e : PendingEvent) (s : State) : State := { s with chan.slot := e }

/-- `LASTEV <- r`, with `EV_AVAIL` saying whether there is a record to read (R38, R253, R254). -/
def setRecord (r : Record) (s : State) : State :=
  { s with chan.record := r, chan.avail := decide (r.kind ≠ .none) }

/-- The second half of a push: the record, where the event makes one (R253). -/
def postRecord (r : Option Record) (s : State) : State :=
  match r with
  | some r => setRecord r s
  | none => s

/-- `EV_PUSH(e)` (R251, R253). -/
def push (e : PushEvent) (s : State) : State :=
  recordEvent (.push e) (postRecord (recordOf s.cfg.lastevOnUp e) (setSlot (slotOf e) s))

/-- `r <- EV_SLOT; EV_SLOT <- None` (R252). -/
def pop (s : State) : State := recordEvent (.pop s.chan.slot) (setSlot .none s)

/-- `r <- LASTEV; LASTEV <- (None, 0); EV_AVAIL <- 0` (R254). -/
def takeRecord (s : State) : State := recordEvent (.waitRead s.chan.record) (setRecord ⟨.none, false⟩ s)

/-- One more blocked EV_WAIT_READ (R254, R52). -/
def blockReader (s : State) : State := { s with ctl.readers := s.ctl.readers + 1 }

/-- EV_POP (R252): the result is the history's last entry (R79). -/
def execEvPop (s : State) : Host.Outcome State Fault Refusal :=
  taskOnly .hostOperationFromHandler s (.next (pop s))

/-- EV_WAIT_READ (R254): reads and resets the record, or blocks while there is none. -/
def execEvWaitRead (s : State) : Host.Outcome State Fault Refusal :=
  taskOnly .hostOperationFromHandler s (.next (if s.chan.avail then takeRecord s else blockReader s))

/-- EV_PUSH(e) (R251): it runs inside an interrupt-context step (R256, R300). -/
def execEvPush (e : PushEvent) (s : State) : Host.Outcome State Fault Refusal := .next (inHandler (push e) s)

end Sys2Proof.Machine
end

