-- ==== Sys2Proof/Machine/Button.lean ====
section
/-! DEFINITION. The button debounce latch (spec/43_button.md): BTN_EDGE. -/

namespace Sys2Proof.Machine

/-- A release-level event (R232): a set latch is cleared at once and ButtonUp pushed. -/
def releaseButton (s : State) : State :=
  if s.button.latch then push .buttonUp { s with button.latch := false } else s

/-- A press-level event (R233, R234): ignored within the window, and when already latched. -/
def pressButton (s : State) : State :=
  if within s.cfg.tDebounce s.button.last s.time then s
  else if s.button.latch then s
  else push .buttonDown { s with button := { latch := true, last := some s.time } }

/-- The handler of BTN_EDGE (R230, R231): press and release are told apart by the level. -/
def buttonHandler (l : Bool) (s : State) : State :=
  if l = s.cfg.btnActive then pressButton s else releaseButton s

/-- BTN_EDGE(t, l) with `t` the present TIME (R230): no step while masked, the edge held if the environment keeps it
(R237, R304); else the handler runs, in interrupt context (R300). -/
def buttonEdge (l : Bool) (s : State) : State :=
  let s' :=
    if s.ctl.mask then { s with ctl.pend.btn := s.ctl.pend.btn || s.env.keep.btn } else inHandler (buttonHandler l) s
  { s' with pins.btn := l }

/-- BTN_EDGE (R230). -/
def execBtnEdge (l : Bool) (s : State) : Host.Outcome State Fault Refusal := .next (buttonEdge l s)

end Sys2Proof.Machine
end

