-- ==== Sys2Proof/Machine/Quadrature.lean ====
section
/-! DEFINITION. The quadrature decoder (spec/42_quadrature.md): ENC_EDGE, ROT_ENABLE and ROT_DISABLE. -/

namespace Sys2Proof.Machine

/-- The levels of ENC_A and ENC_B are now `a` and `b` (R44, R74, log 22). -/
def encoderPins (a b : Bool) (s : State) : State := { s with pins.encA := a, pins.encB := b }

/-- `Q_ACC <- v`. -/
def setAcc (v : Int) (s : State) : State := { s with quad.acc := v }

/-- A valid transition of step `d` is accumulated, and at a threshold one event is pushed and `Q_ACC` cleared (R206,
R207). -/
def accumulate (d : Int) (s : State) : State :=
  let acc := s.quad.acc + d
  let n : Int := s.cfg.nDetent
  if acc ≥ n then setAcc 0 (push .rotateCW s)
  else if acc ≤ -n then setAcc 0 (push .rotateCCW s)
  else setAcc acc s

/-- An accepted interrupt at TIME: the time is recorded, the transition decoded, `Q_PREV` always updated (R204, R205). -/
def acceptEdge (new : RawState) (s : State) : State :=
  let d := transitionStep s.cfg.dirSwap s.quad.prev new
  let s' := { s with quad.last := some s.time, quad.prev := new }
  if d = 0 then s' else accumulate d s'

/-- The handler of ENC_EDGE (R201): an interrupt too soon after the last accepted one is discarded entirely (R203). -/
def encoderHandler (new : RawState) (s : State) : State :=
  if within s.cfg.tGlitch s.quad.last s.time then s else acceptEdge new s

/-- An encoder edge while `IRQ_MASK = 1` (R304): no step; whether it is held is the environment's choice. The sources
are the lines whose level moved, ENC_A where none did (log 14). -/
def holdEncoder (a b : Bool) (s : State) : State :=
  let movedB := b != s.pins.encB
  let movedA := a != s.pins.encA || !movedB
  { s with
    ctl.pend :=
      { s.ctl.pend with
        encA := s.ctl.pend.encA || (movedA && s.env.keep.encA)
        encB := s.ctl.pend.encB || (movedB && s.env.keep.encB) } }

/-- ENC_EDGE(t, a, b) with `t` the present TIME (R201): no step while disabled, the edge lost (R202, R305); no step
while masked (R304); else the handler runs, in interrupt context (R300). -/
def encoderEdge (a b : Bool) (s : State) : State :=
  encoderPins a b
    (if s.quad.rotEn then
      if s.ctl.mask then holdEncoder a b s else inHandler (encoderHandler (rawState a b)) s
    else s)

/-- ROT_ENABLE(a, b) (R210, R211). Encoder edges held from before are not delivered after it (R305, log 14). -/
def enableRotary (a b : Bool) (s : State) : State :=
  encoderPins a b
    { s with
      quad := { prev := rawState a b, acc := 0, last := none, rotEn := true }
      ctl.pend := { s.ctl.pend with encA := false, encB := false } }

/-- ENC_EDGE (R201). -/
def execEncEdge (a b : Bool) (s : State) : Host.Outcome State Fault Refusal := .next (encoderEdge a b s)

/-- ROT_ENABLE (R210). -/
def execRotEnable (a b : Bool) (s : State) : Host.Outcome State Fault Refusal :=
  taskOnly .hostOperationFromHandler s (.next (enableRotary a b s))

/-- ROT_DISABLE (R212): `ROT_EN <- 0`, nothing else. -/
def execRotDisable (s : State) : Host.Outcome State Fault Refusal :=
  taskOnly .hostOperationFromHandler s (.next { s with quad.rotEn := false })

end Sys2Proof.Machine
end

