-- ==== Sys2Proof/Machine/Rtc.lean ====
section
/-! DEFINITION. The 3-wire RTC engine (spec/41_rtc.md): the micro-steps of the clock sequencer, READ_CLOCK and WRITE_CLOCK,
and the micro-operations by themselves. -/

namespace Sys2Proof.Machine

/-! ### Enable windows -/

/-- `RCE <- 1; Delay(T_HALFBIT_US)` (R161, R165, R166). -/
def openWindow (s : State) : State := delay s.cfg.tHalfbit (setRce true s)

/-- `Delay(T_HALFBIT_US); RCE <- 0` (R161, R165, R166). -/
def closeWindow (s : State) : State := setRce false (delay s.cfg.tHalfbit s)

/-- The first half of `RTC_PAIR(cmd, v)`: the window opens, the command byte goes out (R165). -/
def pairOpen (cmd : Byte) (s : State) : State := writeByte false cmd (openWindow s)

/-- The second half of `RTC_PAIR(cmd, v)`: the data byte goes out, the window closes, RIO is released (R165); the pair
joins the history (R79). -/
def pairClose (cmd v : Byte) (s : State) : State :=
  recordEvent (.memWrite cmd v) (driveRio .input (closeWindow (writeByte false v s)))

/-! ### The sequencer -/

/-- The sequencer enters a position (R25), at the micro-step `ph`. -/
def rtcTo (q : CSeq) (ph : CPhase) (s : State) : State := { s with rtc.seq := q, rtc.phase := ph }

/-- The next micro-step of the position is `ph` (log 18). -/
def phaseTo (ph : CPhase) (s : State) : State := { s with rtc.phase := ph }

/-- `CBUF[j] <- C_SHIFT`: the byte received goes to its place (R166). -/
def storeByte (j : Fin 8) (s : State) : State := { s with rtc.cbuf := s.rtc.cbuf.set j.val s.rtc.shift }

/-- `R_DECODE` (R170 to R173): the decoded value is written as a whole, or RangeError is raised. -/
def decodeClock (s : State) : State :=
  match clockDec s.cfg s.rtc.cbuf with
  | some v => { s with rtc.clock := v, rtc.valid := true, rtc.cerr := .ok, rtc.seq := .idle }
  | none => raiseReadClock s

/-- WRITE_CLOCK ends well (R180, R183): `CRES` is not touched (R184). -/
def finishWrite (s : State) : State :=
  releaseLock .rtc (rtcTo .idle .rest { s with rtc.cerr := .ok })

/-- The command byte of the window: that of the pair, or the burst read's, with the turn-around (R165, R166, R167). -/
def commandKind (s : State) : ByteKind :=
  match s.rtc.seq with
  | .wPair p => .out (pairCommand s.cfg p) false
  | _ => .out s.cfg.cmdBurstRead true

/-- The data byte of the window: that of the pair goes out, those of a burst read come in (R165, R166). -/
def dataKind (s : State) : ByteKind :=
  match s.rtc.seq with
  | .wPair p => .out (pairData s.cfg s.rtc.wbuf p) false
  | _ => .into

/-- What follows the command byte: the data byte, at `R_DATA(0)` in a read (R165, R166). -/
def afterCommand (s : State) : State :=
  match s.rtc.seq with
  | .rCmd => rtcTo (.rData 0) (.data .load) s
  | _ => phaseTo (.data .load) s

/-- What follows a data byte: the next byte of a burst read, else the end of the window (R165, R166). -/
def afterData (s : State) : State :=
  match s.rtc.seq with
  | .rData j =>
    if h : j.val + 1 < 8 then rtcTo (.rData ⟨j.val + 1, h⟩) (.data .load) (storeByte j s)
    else phaseTo .trail (storeByte j s)
  | _ => phaseTo .trail s

/-- A micro-step of the byte `k`: within the byte, or its last, which `done` follows. -/
def byteTick (k : ByteKind) (put : BitPhase → CPhase) (done : State → State) (q : BitPhase) (s : State) : State :=
  match nextPhase k q (bitAct k q s).rtc.bitcnt with
  | some q' => phaseTo (put q') (bitAct k q s)
  | none => done (bitAct k q s)

/-- `RCE <- 0`: the transaction is complete and joins the history (R14, R165, R166, R79). -/
def closeTick (s : State) : State :=
  match s.rtc.seq with
  | .wPair p =>
    phaseTo .settle (recordEvent (.memWrite (pairCommand s.cfg p) (pairData s.cfg s.rtc.wbuf p)) (setRce false s))
  | _ => phaseTo .finish (recordEvent (.memRead s.cfg.cmdBurstRead s.rtc.cbuf) (setRce false s))

/-- `SetInput(RIO)` (R165), and the next pair, or the end of WRITE_CLOCK (R180). -/
def settleTick (s : State) : State :=
  match s.rtc.seq with
  | .wPair p =>
    if h : p.val + 1 < 9 then rtcTo (.wPair ⟨p.val + 1, h⟩) .rest (driveRio .input s)
    else phaseTo .finish (driveRio .input s)
  | _ => phaseTo .finish (driveRio .input s)

/-- `Release(BUSLOCK)`: WRITE_CLOCK ends, READ_CLOCK goes to its decode (R170, R174, R180). -/
def finishTick (s : State) : State :=
  match s.rtc.seq with
  | .wPair _ => finishWrite s
  | _ => rtcTo .rDecode .rest (releaseLock .rtc s)

/-- A micro-step in an enable window, or between two of them (R161, R165, R166). -/
def windowTick (s : State) : State :=
  match s.rtc.phase with
  | .rest => phaseTo .lead (setRce true s)
  | .lead => phaseTo (.command .load) (delay s.cfg.tHalfbit s)
  | .command q => byteTick (commandKind s) .command afterCommand q s
  | .data q => byteTick (dataKind s) .data afterData q s
  | .trail => phaseTo .close (delay s.cfg.tHalfbit s)
  | .close => closeTick s
  | .settle => settleTick s
  | .finish => finishTick s

/-- One micro-step of the RTC engine (R170, R180): one primitive on a pin, on TIME or on the lock, with the register writes
that go with it (R13, R15, log 18); at `W_CHECK` the engine waits for the lock (R180). -/
def rtcTick (s : State) : State :=
  match s.rtc.seq with
  | .idle => s
  | .rDecode => decodeClock s
  | .wCheck => if s.ctl.lock = .free then rtcTo (.wPair 0) .rest (acquire .rtc s) else s
  | _ => windowTick s

/-- At most `n` micro-steps, ending when the engine is idle. -/
def runRtc : Nat → State → State
  | 0, s => s
  | n + 1, s => if s.rtc.seq = .idle then s else runRtc n (rtcTick s)

/-- How many micro-steps a READ_CLOCK has after it began: the window opens in 2, the command byte has 42, each of eight
bytes 41, the window closes in 2, the lock is freed, the decode (R170). -/
def readTicks : Nat := 376

/-- How many micro-steps a WRITE_CLOCK has after its operand check: the lock, for each of nine pairs 2 to open the window,
41 a byte and 3 to close it, and the end (R180). -/
def writeTicks : Nat := 785

/-- The engine stands before a byte, or outside a window. -/
def betweenBytes (s : State) : Bool := decide (s.rtc.phase = .rest) || decide (s.rtc.phase = .data .load)

/-- Micro-steps up to the next byte or out of the window, at least one and at most `n`. -/
def untilByte : Nat → State → State
  | 0, s => s
  | n + 1, s => if betweenBytes (rtcTick s) then rtcTick s else untilByte n (rtcTick s)

/-- The byte at hand and all that goes with it: before a command its window opens, after a last data byte it closes. -/
def rtcByte (s : State) : State := untilByte 48 s

/-- A WRITE_CLOCK that waits at `W_CHECK` gives the sequencer up and waits among the requests, with its operand: which
waiter goes first is not determined (R70, R29, log 13). -/
def displace (s : State) : State :=
  if s.rtc.seq = .wCheck then enqueue (.writeClock s.rtc.wbuf) { s with rtc.seq := .idle } else s

/-- READ_CLOCK begins (R170): the lock is taken; the window opens next (R166, log 18). -/
def startRead (s : State) : State := rtcTo .rCmd .rest (acquire .rtc (displace s))

/-- WRITE_CLOCK begins (R180, R181): the operand is latched and checked; out of range it ends here, with no bus
activity and without the lock. -/
def startWrite (v : ClockValue) (s : State) : State :=
  let s' := { displace s with rtc.wbuf := v, rtc.seq := .wCheck }
  if inRange v then s' else raiseWriteClock s'

/-! ### The meanings -/

/-- READ_CLOCK (R170). Run to its end; where the lock is held, or the engine still decodes, it waits (R70, log 13). -/
def execReadClock (s : State) : Host.Outcome State Fault Refusal :=
  busStep (fun s => if rtcReady s then runRtc readTicks (startRead s) else enqueue .readClock s) s

/-- WRITE_CLOCK(v) (R180). Run to its end, or to `W_CHECK` where the lock is held (R70); where the engine runs another
operation it waits for the engine (log 13). -/
def execWriteClock (v : ClockValue) (s : State) : Host.Outcome State Fault Refusal :=
  busStep (fun s => if rtcFree s then runRtc writeTicks (startWrite v s) else enqueue (.writeClock v) s) s

/-- RTC_WRITE_BYTE(b) (R163). -/
def execRtcWriteByte (b : Byte) (s : State) : Host.Outcome State Fault Refusal :=
  busStep (writeByte false b) s

/-- RTC_READ_BYTE (R164). -/
def execRtcReadByte (s : State) : Host.Outcome State Fault Refusal :=
  busStep readByte s

/-- RTC_PAIR(cmd, v) (R165). -/
def execRtcPair (cmd v : Byte) (s : State) : Host.Outcome State Fault Refusal :=
  busStep (fun s => pairClose cmd v (pairOpen cmd s)) s

/-- Bytes `j`, `j + 1`, … of a burst read, `n` of them, each at its position (R166). -/
def burstBytes : Nat → Nat → State → State
  | 0, _, s => s
  | n + 1, j, s =>
    burstBytes n (j + 1)
      (if h : j < 8 then storeByte ⟨j, h⟩ (readByte { s with rtc.seq := .rData ⟨j, h⟩ }) else s)

/-- `BURST_READ()` (R166): one enable window, the command byte out, eight bytes in; the transaction joins the history
(R79). -/
def burstRead (s : State) : State :=
  let s' := closeWindow (burstBytes 8 0 (writeByte true s.cfg.cmdBurstRead { openWindow s with rtc.seq := .rCmd }))
  recordEvent (.memRead s'.cfg.cmdBurstRead s'.rtc.cbuf) s'

/-- BURST_READ (R166). -/
def execBurstRead (s : State) : Host.Outcome State Fault Refusal :=
  busStep burstRead s

end Sys2Proof.Machine
end

