-- ==== Sys2Proof/Machine/Sensor.lean ====
section
/-! DEFINITION. The single-wire sensor decoder (spec/40_sensor.md): WAIT_LEVEL, SAMPLE, the micro-steps of the sensor
sequencer, and READ_SENSOR. -/

namespace Sys2Proof.Machine

/-! ### WAIT_LEVEL and SAMPLE -/

/-- Whether WAIT_LEVEL(v) finds its level, and the TIME it returns at (R140). The budget is that of R140's loop,
`WAIT_MAX_ITER` polls of `T_POLL_US`, whatever `T_WAIT_BUDGET_US` is (DESIGN CHOICE where the three are set apart, log 34).
Against an outcome (R62) the step that the outcome names is the one that times out. -/
def waitOutcome (v : Bool) (s : State) : Bool × Nat :=
  let budget := s.cfg.waitMaxIter * s.cfg.tPoll
  match sensorAnswer s with
  | .wave w =>
    match pollUntil (fun t => sdataLevel s.pins.sdata w (t - s.aux.sHs1)) v s.cfg.tPoll s.cfg.waitMaxIter s.aux.sClock with
    | some t => (true, t)
    | none => (false, s.aux.sClock + budget)
  | .frame _ => (true, s.aux.sClock)
  | .timeoutAt k => if waitStep s.sensor.seq = some k then (false, s.aux.sClock + budget) else (true, s.aux.sClock)

/-- `WAIT_LEVEL(v)` (R140): time passes, and the result goes to the caller. -/
def waitLevel (v : Bool) (s : State) : State :=
  let r := waitOutcome v s
  { timeTo r.2 s with aux.sClock := r.2, aux.waitOk := r.1 }

/-- The level SAMPLE reads (R137): of the waveform, `T_SAMPLE_US` on; of a frame, the bit in turn (R92); before a timeout
given as an outcome, any level (log 7). -/
def sampleLevel (s : State) : Bool :=
  match sensorAnswer s with
  | .wave w => sdataLevel s.pins.sdata w (s.aux.sClock + s.cfg.tSample - s.aux.sHs1)
  | .frame f =>
    match s.sensor.seq with
    | .bitSample i => frameBit f i
    | _ => Config.freeLevel s.aux.freeCtr
  | .timeoutAt _ => Config.freeLevel s.aux.freeCtr

/-- `SAMPLE` (R137): `Delay(T_SAMPLE_US)`, then the level of the line. -/
def sampleLine (s : State) : State :=
  let t := s.aux.sClock + s.cfg.tSample
  useFree 1 { timeTo t s with aux.sClock := t, aux.sampled := sampleLevel s }

/-! ### The sequencer -/

/-- The sequencer enters a position (R21). -/
def sensorTo (q : SSeq) (s : State) : State := { s with sensor.seq := q }

/-- A wait step and what the sequencer does with its result (R139): on, or out with Timeout(k) (R292). -/
def waitThen (v : Bool) (onward : State → State) (s : State) : State :=
  let s' := waitLevel v s
  if s'.aux.waitOk then onward s'
  else
    let k := (waitStep s.sensor.seq).getD 0
    raiseSensor .timeout k (recordEvent (.sensorTimeout k) s')

/-- `BIT_SAMPLE(i)`: SAMPLE, then the bit is stored (R138). -/
def sampleStore (i : Fin 40) (s : State) : State :=
  let s' := sampleLine s
  { s' with
    sensor.frame := storeBit s'.sensor.frame i s'.aux.sampled
    sensor.bitcnt := i.val + 1
    sensor.seq := .bitLo i }

/-- What follows `BIT_LO(i)` (R131, R134): the next bit, or after the 40th the end of the critical section and `CHECK`. -/
def afterBit (i : Fin 40) (s : State) : State :=
  if h : i.val + 1 < 40 then sensorTo (.bitHi ⟨i.val + 1, h⟩) s
  else sensorTo .check (recordEvent (.sensorFrame s.sensor.frame) { s with ctl.mask := false })

/-- When `WAKE` ends: not before `T_WAKE_US` have passed, later if the environment asks (R132, log 17). -/
def wakeEnd (want : Option Nat) (s : State) : Nat :=
  max s.time (max (s.aux.sClock + s.cfg.tWake) (want.getD 0))

/-- When `RELEASE` ends: `T_REL_US` after it began, earlier if the environment asks (R133, log 17). -/
def releaseEnd (want : Option Nat) (s : State) : Nat :=
  max s.time (min (want.getD (s.aux.sClock + s.cfg.tRel)) (s.aux.sClock + s.cfg.tRel))

/-- One micro-step of the sensor engine (R130, R131, R139). `want` is a TIME the environment asks the position to end
at; only `WAKE` and `RELEASE` heed it. -/
def sensorTick (want : Option Nat) (s : State) : State :=
  match s.sensor.seq with
  | .idle => s
  | .wake =>
    let t := wakeEnd want s
    sensorTo .release (driveSdata .drive1 { timeTo t s with aux.sClock := t })
  | .release =>
    let t := releaseEnd want s
    sensorTo .hs1 { driveSdata .input (timeTo t s) with aux.sClock := t, aux.sHs1 := t, ctl.mask := true }
  | .hs1 => waitThen false (sensorTo .hs2) s
  | .hs2 => waitThen true (sensorTo .hs3) s
  | .hs3 =>
    waitThen false
      (fun s' => sensorTo (.bitHi 0) { s' with sensor.frame := Vector.replicate 5 0, sensor.bitcnt := 0 }) s
  | .bitHi i => waitThen true (sensorTo (.bitSample i)) s
  | .bitSample i => sampleStore i s
  | .bitLo i => waitThen false (afterBit i) s
  | .check =>
    if checksumGood s.sensor.frame then finishSensor s else raiseSensor .checksumMismatch 0 s

/-- At most `n` micro-steps, ending when the engine is idle. -/
def runSensor : Nat → State → State
  | 0, s => s
  | n + 1, s => if s.sensor.seq = .idle then s else runSensor n (sensorTick none s)

/-- How many micro-steps the longest READ_SENSOR has: WAKE, RELEASE, three of the handshake, three a bit, CHECK (R131). -/
def sensorTicks : Nat := 126

/-- READ_SENSOR begins (R130, R132): the lock is taken, the line driven low. -/
def startSensor (s : State) : State :=
  sensorTo .wake { driveSdata .drive0 (acquire .sensor s) with aux.sClock := s.time }

/-! ### The meanings -/

/-- READ_SENSOR (R130). Run to its end; where the lock is held it waits (R70, R148). -/
def execReadSensor (s : State) : Host.Outcome State Fault Refusal :=
  busStep (fun s => if sensorReady s then runSensor sensorTicks (startSensor s) else enqueue .readSensor s) s

/-- WAIT_LEVEL(v) (R140). -/
def execWaitLevel (v : Bool) (s : State) : Host.Outcome State Fault Refusal :=
  busStep (waitLevel v) s

/-- SAMPLE (R137). -/
def execSample (s : State) : Host.Outcome State Fault Refusal :=
  busStep sampleLine s

end Sys2Proof.Machine
end

