-- ==== Sys2Proof/Machine/Codes.lean ====
section
/-! DEFINITION. The meanings of the codes: command bytes, data bytes, frame bytes, transition-table entries, event codes,
records and result codes. A code has the effect it stands for at the place where the block meets it; met in another place
it selects no step (log 11). -/

namespace Sys2Proof.Machine

/-! ### HOSTOP_RESERVED -/

/-- A reserved HOSTOP code is refused (R115, R118). -/
def execHostopReserved (op arg : Nibble) (_s : State) : Host.Outcome State Fault Refusal :=
  .refused (.reservedCode op arg)

/-! ### RCMD and the write-protect bytes -/

/-- The sequencer is to send the command byte of pair `p`: its window opens next (R165, log 19). -/
def atCommand (p : Fin 9) (s : State) : Bool := decide (s.rtc.seq = .wPair p) && decide (s.rtc.phase = .rest)

/-- The sequencer is to send the data byte of pair `p` (R165, log 19). -/
def atData (p : Fin 9) (s : State) : Bool := decide (s.rtc.seq = .wPair p) && decide (s.rtc.phase = .data .load)

/-- CMD_BURST_READ (R101): sent at `R_CMD` of READ_CLOCK, whose window opens next (R166). -/
def execCmdBurstRead (s : State) : Host.Outcome State Fault Refusal :=
  busStep (inPlace (decide (s.rtc.seq = .rCmd) && decide (s.rtc.phase = .rest)) rtcByte) s

/-- CMD_WR_SECONDS (R101): sent in pair 1 of WRITE_CLOCK. -/
def execCmdWrSeconds (s : State) : Host.Outcome State Fault Refusal := busStep (inPlace (atCommand 1 s) rtcByte) s

/-- CMD_WR_MINUTES (R101): sent in pair 2 of WRITE_CLOCK. -/
def execCmdWrMinutes (s : State) : Host.Outcome State Fault Refusal := busStep (inPlace (atCommand 2 s) rtcByte) s

/-- CMD_WR_HOURS (R101): sent in pair 3 of WRITE_CLOCK. -/
def execCmdWrHours (s : State) : Host.Outcome State Fault Refusal := busStep (inPlace (atCommand 3 s) rtcByte) s

/-- CMD_WR_DAY (R101): sent in pair 4 of WRITE_CLOCK. -/
def execCmdWrDay (s : State) : Host.Outcome State Fault Refusal := busStep (inPlace (atCommand 4 s) rtcByte) s

/-- CMD_WR_MONTH (R101): sent in pair 5 of WRITE_CLOCK. -/
def execCmdWrMonth (s : State) : Host.Outcome State Fault Refusal := busStep (inPlace (atCommand 5 s) rtcByte) s

/-- CMD_WR_WEEKDAY (R101): sent in pair 6 of WRITE_CLOCK. -/
def execCmdWrWeekday (s : State) : Host.Outcome State Fault Refusal := busStep (inPlace (atCommand 6 s) rtcByte) s

/-- CMD_WR_YEAR (R101): sent in pair 7 of WRITE_CLOCK. -/
def execCmdWrYear (s : State) : Host.Outcome State Fault Refusal := busStep (inPlace (atCommand 7 s) rtcByte) s

/-- CMD_WR_CONTROL (R101): sent in pairs 0 and 8 of WRITE_CLOCK. -/
def execCmdWrControl (s : State) : Host.Outcome State Fault Refusal :=
  busStep (inPlace (atCommand 0 s || atCommand 8 s) rtcByte) s

/-- WP_OFF (R102): the data byte of pair 0. -/
def execWpOff (s : State) : Host.Outcome State Fault Refusal := busStep (inPlace (atData 0 s) rtcByte) s

/-- WP_ON (R102): the data byte of pair 8, the last of WRITE_CLOCK. -/
def execWpOn (s : State) : Host.Outcome State Fault Refusal := busStep (inPlace (atData 8 s) rtcByte) s

/-! ### RDATA -/

/-- The data byte `b` of location `j` (R99): at `R_DATA(j)` the device presents it and the block reads it (R166); in the
pair of that location the block sends it, if it is the byte of the field (R180). The control location is written by the
write-protect bytes only (R102). -/
def dataByte (j : Fin 8) (b : Byte) (s : State) : State :=
  if s.rtc.phase = .data .load then
    match s.rtc.seq with
    | .rData j' => if j' = j then rtcByte { s with env.rioIn := lsbBits b ++ s.env.rioIn } else s
    | .wPair p =>
      inPlace (decide (p.val = j.val + 1) && decide (j.val < 7) && decide (b = pairData s.cfg s.rtc.wbuf p)) rtcByte s
    | _ => s
  else s

/-- RDATA_SECONDS (R103). -/
def execRdataSeconds (t u : Nibble) (s : State) : Host.Outcome State Fault Refusal := busStep (dataByte 0 (byteOf t u)) s

/-- RDATA_MINUTES (R104). -/
def execRdataMinutes (t u : Nibble) (s : State) : Host.Outcome State Fault Refusal := busStep (dataByte 1 (byteOf t u)) s

/-- RDATA_HOURS (R105, R106, R107). -/
def execRdataHours (t u : Nibble) (s : State) : Host.Outcome State Fault Refusal := busStep (dataByte 2 (byteOf t u)) s

/-- RDATA_DAY (R104). -/
def execRdataDay (t u : Nibble) (s : State) : Host.Outcome State Fault Refusal := busStep (dataByte 3 (byteOf t u)) s

/-- RDATA_MONTH (R104). -/
def execRdataMonth (t u : Nibble) (s : State) : Host.Outcome State Fault Refusal := busStep (dataByte 4 (byteOf t u)) s

/-- RDATA_WEEKDAY (R104). -/
def execRdataWeekday (t u : Nibble) (s : State) : Host.Outcome State Fault Refusal := busStep (dataByte 5 (byteOf t u)) s

/-- RDATA_YEAR (R104). -/
def execRdataYear (t u : Nibble) (s : State) : Host.Outcome State Fault Refusal := busStep (dataByte 6 (byteOf t u)) s

/-- RDATA_CONTROL (R175): read and dropped. -/
def execRdataControl (t u : Nibble) (s : State) : Host.Outcome State Fault Refusal := busStep (dataByte 7 (byteOf t u)) s

/-! ### SFRAME -/

/-- Byte `n` of the frame arrives (R91, R92): where the sequencer is at the first bit of that byte, its eight bits are
received, three micro-steps a bit, as the outcome oracle gives them (R62); the answers to come are as before. -/
def frameByte (n : Fin 5) (b : Byte) (s : State) : State :=
  match s.sensor.seq with
  | .bitHi i =>
    if i.val = 8 * n.val then
      { runSensor 24 { s with env.sensorIn := [.frame ((Vector.replicate 5 0).set n.val b)] } with
        env.sensorIn := s.env.sensorIn }
    else s
  | _ => s

/-- SFRAME_HUM_INT (R91). -/
def execSframeHumInt (b : Byte) (s : State) : Host.Outcome State Fault Refusal := busStep (frameByte 0 b) s

/-- SFRAME_HUM_FRAC (R91). -/
def execSframeHumFrac (b : Byte) (s : State) : Host.Outcome State Fault Refusal := busStep (frameByte 1 b) s

/-- SFRAME_TEMP_INT (R91). -/
def execSframeTempInt (b : Byte) (s : State) : Host.Outcome State Fault Refusal := busStep (frameByte 2 b) s

/-- SFRAME_TEMP_FRAC (R91). -/
def execSframeTempFrac (b : Byte) (s : State) : Host.Outcome State Fault Refusal := busStep (frameByte 3 b) s

/-- SFRAME_CHECKSUM (R91, R93). -/
def execSframeChecksum (b : Byte) (s : State) : Host.Outcome State Fault Refusal := busStep (frameByte 4 b) s

/-! ### QIDX -/

/-- The entry `{prev, new}` of the transition table (R110): the ENC_EDGE whose index selects it, which needs
`Q_PREV = prev` (R109). While the source is disabled `Q_PREV` is not read and no entry is selected (R202, R334, U10). -/
def tableEntry (prev new : RawState) (s : State) : State :=
  inPlace (s.quad.rotEn && decide (s.quad.prev = prev)) (encoderEdge (new.getLsbD 1) (new.getLsbD 0)) s

/-- Q_00_00 (R110): no change. -/
def execQ0000 (s : State) : Host.Outcome State Fault Refusal := .next (tableEntry 0 0 s)

/-- Q_00_01 (R110): counter-clockwise. -/
def execQ0001 (s : State) : Host.Outcome State Fault Refusal := .next (tableEntry 0 1 s)

/-- Q_00_10 (R110): clockwise. -/
def execQ0010 (s : State) : Host.Outcome State Fault Refusal := .next (tableEntry 0 2 s)

/-- Q_00_11 (R110): non-adjacent. -/
def execQ0011 (s : State) : Host.Outcome State Fault Refusal := .next (tableEntry 0 3 s)

/-- Q_01_00 (R110): clockwise. -/
def execQ0100 (s : State) : Host.Outcome State Fault Refusal := .next (tableEntry 1 0 s)

/-- Q_01_01 (R110): no change. -/
def execQ0101 (s : State) : Host.Outcome State Fault Refusal := .next (tableEntry 1 1 s)

/-- Q_01_10 (R110): non-adjacent. -/
def execQ0110 (s : State) : Host.Outcome State Fault Refusal := .next (tableEntry 1 2 s)

/-- Q_01_11 (R110): counter-clockwise. -/
def execQ0111 (s : State) : Host.Outcome State Fault Refusal := .next (tableEntry 1 3 s)

/-- Q_10_00 (R110): counter-clockwise. -/
def execQ1000 (s : State) : Host.Outcome State Fault Refusal := .next (tableEntry 2 0 s)

/-- Q_10_01 (R110): non-adjacent. -/
def execQ1001 (s : State) : Host.Outcome State Fault Refusal := .next (tableEntry 2 1 s)

/-- Q_10_10 (R110): no change. -/
def execQ1010 (s : State) : Host.Outcome State Fault Refusal := .next (tableEntry 2 2 s)

/-- Q_10_11 (R110): clockwise. -/
def execQ1011 (s : State) : Host.Outcome State Fault Refusal := .next (tableEntry 2 3 s)

/-- Q_11_00 (R110): non-adjacent. -/
def execQ1100 (s : State) : Host.Outcome State Fault Refusal := .next (tableEntry 3 0 s)

/-- Q_11_01 (R110): clockwise. -/
def execQ1101 (s : State) : Host.Outcome State Fault Refusal := .next (tableEntry 3 1 s)

/-- Q_11_10 (R110): counter-clockwise. -/
def execQ1110 (s : State) : Host.Outcome State Fault Refusal := .next (tableEntry 3 2 s)

/-- Q_11_11 (R110): no change. -/
def execQ1111 (s : State) : Host.Outcome State Fault Refusal := .next (tableEntry 3 3 s)

/-! ### EVCODE and LREC: the results of EV_POP and EV_WAIT_READ -/

/-- The EV_POP that returns `e` (R252): only EV_PUSH fills the slot and only a pop empties it (R255, R256), so the code is
in place where the slot holds `e` (log 11). -/
def popOf (e : PendingEvent) (s : State) : Host.Outcome State Fault Refusal :=
  taskOnly .hostOperationFromHandler s (.next (inPlace (decide (s.chan.slot = e)) pop s))

/-- The EV_WAIT_READ that returns a record which `isIt` accepts (R254): in place where there is such a record to read
(log 11). -/
def readOf (isIt : Record → Bool) (s : State) : Host.Outcome State Fault Refusal :=
  taskOnly .hostOperationFromHandler s
    (.next (inPlace (s.chan.avail && isIt s.chan.record) takeRecord s))

/-- EV_None (R112): what EV_POP returns of an empty slot (R252). -/
def execEvNone (s : State) : Host.Outcome State Fault Refusal := popOf .none s

/-- EV_RotateCW (R112). -/
def execEvRotateCW (s : State) : Host.Outcome State Fault Refusal := popOf .rotateCW s

/-- EV_RotateCCW (R112). -/
def execEvRotateCCW (s : State) : Host.Outcome State Fault Refusal := popOf .rotateCCW s

/-- EV_ButtonDown (R112). -/
def execEvButtonDown (s : State) : Host.Outcome State Fault Refusal := popOf .buttonDown s

/-- EV_ButtonUp (R112). -/
def execEvButtonUp (s : State) : Host.Outcome State Fault Refusal := popOf .buttonUp s

/-- LREC_None (R113), with any direction: EV_WAIT_READ waits for a record, so that it never returns this one (R254, C9). -/
def execLrecNone (s : State) : Host.Outcome State Fault Refusal := readOf (fun r => decide (r.kind = .none)) s

/-- LREC_Rot_plus (R113). -/
def execLrecRotPlus (s : State) : Host.Outcome State Fault Refusal := readOf (fun r => decide (r = ⟨.rot, false⟩)) s

/-- LREC_Rot_minus (R113). -/
def execLrecRotMinus (s : State) : Host.Outcome State Fault Refusal := readOf (fun r => decide (r = ⟨.rot, true⟩)) s

/-- LREC_Btn (R113), with any direction; the block posts it with direction 0 (R253). -/
def execLrecBtn (s : State) : Host.Outcome State Fault Refusal := readOf (fun r => decide (r.kind = .btn)) s

/-! ### ERRCODE: an operation ends with the code, where its cause holds -/

/-- The level a wait position waits for (R135, R136). -/
def wantedLevel : SSeq → Option Bool
  | .hs1 => some false
  | .hs2 => some true
  | .hs3 => some false
  | .bitHi _ => some true
  | .bitLo _ => some false
  | _ => none

/-- The wait step at hand exceeds its budget: the cause of Timeout (R292). -/
def timesOut (s : State) : Bool :=
  match wantedLevel s.sensor.seq with
  | some v => !(waitOutcome v s).1
  | none => false

/-- The RTC engine is at the end of an operation that ends well: READ_CLOCK at `R_DECODE` with values in range (R172),
WRITE_CLOCK after its ninth pair (R180, R183). -/
def clockEndsWell (s : State) : Bool :=
  match s.rtc.seq with
  | .rDecode => (clockDec s.cfg s.rtc.cbuf).isSome
  | .wPair p => decide (p.val = 8) && decide (s.rtc.phase = .finish)
  | _ => false

/-- ERR_OK (R291): the bus operation at its end ends well, READ_SENSOR at `CHECK` with a good frame (R141), else the
operation of the RTC engine. The other host operations are one step and store no code, so that no end of theirs is ever
next, and where both engines are at an end the sensor engine's is taken (DESIGN CHOICE, log 11). -/
def execErrOK (s : State) : Host.Outcome State Fault Refusal :=
  busStep
    (fun s =>
      if s.sensor.seq = .check ∧ checksumGood s.sensor.frame then sensorTick none s
      else inPlace (clockEndsWell s) rtcTick s)
    s

/-- ERR_Timeout (R291, R292): a wait step of READ_SENSOR exceeds its budget. -/
def execErrTimeout (s : State) : Host.Outcome State Fault Refusal :=
  busStep (inPlace (timesOut s) (sensorTick none)) s

/-- ERR_ChecksumMismatch (R291, R293): 40 bits arrived and the checksum fails. -/
def execErrChecksumMismatch (s : State) : Host.Outcome State Fault Refusal :=
  busStep (inPlace (decide (s.sensor.seq = .check) && !checksumGood s.sensor.frame) (sensorTick none)) s

/-- ERR_RangeError (R291, R294): READ_CLOCK decoded a value out of range, or WRITE_CLOCK's operand is. -/
def execErrRangeError (s : State) : Host.Outcome State Fault Refusal :=
  busStep
    (match s.rtc.seq with
    | .rDecode => inPlace (clockDec s.cfg s.rtc.cbuf).isNone rtcTick
    | .wCheck => inPlace (!inRange s.rtc.wbuf) raiseWriteClock
    | _ => id)
    s

/-- ERR_TransportError (R295): raised by nothing in the block; a model refuses it as a block result (U7). -/
def execErrTransportError (_s : State) : Host.Outcome State Fault Refusal := .refused .transportErrorOutsideBlock

end Sys2Proof.Machine
end

