-- ==== Sys2Proof/Machine/Agents.lean ====
section
/-! DEFINITION. Which agent moves and what it does (R75, R303, R308): operations that are issued only, waiting requests,
blocked readers, held edges, and the turn of a script line. -/

namespace Sys2Proof.Machine

/-! ### Issued operations -/

/-- A request begins (R130, R170, R180). -/
def startRequest (r : Request) (s : State) : State :=
  match r with
  | .readSensor => startSensor s
  | .readClock => startRead s
  | .writeClock v => startWrite v s

/-- A bus operation is issued: it begins, or it waits (R70). -/
def request (r : Request) (s : State) : State :=
  if requestReady r s then startRequest r s else enqueue r s

/-- The request of a bus operation; none for every other instruction. -/
def requestOf : Instr → Option Request
  | .readSensor => some .readSensor
  | .readClock => some .readClock
  | .writeClock v => some (.writeClock v)
  | _ => none

/-- A bus operation is issued, its micro-steps left to later steps (R71, log 8). -/
def issueRequest (r : Request) (s : State) : Host.Outcome State Fault Refusal :=
  busStep (request r) s

/-! ### The agents -/

/-- The `n`-th waiting request gets its turn (R70). -/
def grantRequest (n : Nat) (s : State) : State :=
  match s.ctl.waiting[n]? with
  | some r =>
    if requestReady r s then startRequest r { s with ctl.waiting := s.ctl.waiting.eraseIdx n } else s
  | none => s

/-- A blocked EV_WAIT_READ goes on if there is a record (R254). -/
def wakeReader (s : State) : State :=
  if s.chan.avail ∧ 0 < s.ctl.readers then takeRecord { s with ctl.readers := s.ctl.readers - 1 } else s

/-- A held edge is served, once, with the present TIME and the present levels, after the mask cleared (R304). -/
def serveLate (src : Source) (s : State) : State :=
  if s.ctl.pend.get src ∧ s.ctl.mask = false then
    let s' := { s with ctl.pend := s.ctl.pend.clear src }
    match src with
    | .btn => buttonEdge s'.pins.btn s'
    | _ => encoderEdge s'.pins.encA s'.pins.encB s'
  else s

/-- The step of the agent that was picked; one that has none stays where it is. -/
def agentStep (p : Pick) (s : State) : State :=
  match p with
  | .sensor want => sensorTick want s
  | .rtc => rtcTick s
  | .grant n => grantRequest n s
  | .reader => wakeReader s
  | .late src => serveLate src s

/-- The agent may move: the sensor engine always, every other but in the critical section, where the sensor engine is not
preempted (R134, R308, R311). -/
def mayMove (p : Pick) (s : State) : Bool :=
  match p with
  | .sensor _ => true
  | _ => !s.ctl.mask

/-- A picked agent takes its step if it may. -/
def runPick (p : Pick) (s : State) : State := if mayMove p s then agentStep p s else s

/-- The source whose held edge is served (R304) when the environment picks none. R303 fixes no order of several: ENC_A before
ENC_B before BTN is the model's (DESIGN CHOICE, log 9); a pick serves any of them. -/
def lateSource (s : State) : Option Source :=
  if s.ctl.mask then none
  else if s.ctl.pend.encA then some .encA
  else if s.ctl.pend.encB then some .encB
  else if s.ctl.pend.btn then some .btn
  else none

/-- The agent that moves when the environment picks none, in an order that R303 and R308 leave open (DESIGN CHOICE, log 9):
the sensor engine, the RTC engine, a held edge, the first waiting request that can begin, a blocked reader; none when all is
quiet. -/
def nextAgent (s : State) : Option Pick :=
  if s.sensor.seq ≠ .idle then some (.sensor none)
  else if rtcEnabled s then some .rtc
  else
    match lateSource s with
    | some src => some (.late src)
    | none =>
      match s.ctl.waiting.findIdx? (fun r => requestReady r s) with
      | some n => some (.grant n)
      | none => if s.chan.avail ∧ 0 < s.ctl.readers then some .reader else none

/-- The block goes on by itself. -/
def goOn (s : State) : State :=
  match nextAgent s with
  | some p => runPick p s
  | none => s

/-! ### Script lines -/

/-- What may be served in the critical section: pin events, which take no handler step there (R304), and the codes of the
sensor engine's own micro-steps (R91, R292). -/
def servedMasked : Instr → Bool
  | .encEdge _ _ | .btnEdge _ => true
  | .q_00_00 | .q_00_01 | .q_00_10 | .q_00_11 | .q_01_00 | .q_01_01 | .q_01_10 | .q_01_11 | .q_10_00 | .q_10_01
  | .q_10_10 | .q_10_11 | .q_11_00 | .q_11_01 | .q_11_10 | .q_11_11 => true
  | .sframeHumInt _ | .sframeHumFrac _ | .sframeTempInt _ | .sframeTempFrac _ | .sframeChecksum _ => true
  | .errTimeout => true
  | _ => false

/-- The sensor engine's next micro-step ends before the line's TIME. -/
def engineDue (at_ : Option Nat) (s : State) : Bool :=
  match at_ with
  | some t => decide ((sensorTick none s).time < t)
  | none => false

/-- The sensor engine moves before the line: in the critical section it is not preempted and its delays are exact (R134,
R308), and `RELEASE` has an upper bound (R133). No other agent is ever made to move before a line (R75, log 16). -/
def heldBack (l : Line) (i : Instr) (s : State) : Bool :=
  if s.ctl.mask then !servedMasked i || engineDue l.time s
  else decide (s.sensor.seq = .release) && engineDue l.time s

/-- What a line tells of the environment joins the state (R116). -/
def install (i : EnvItem) (s : State) : State :=
  match i with
  | .sensorAnswer a => { s with env.sensorIn := s.env.sensorIn ++ [a] }
  | .rtcBytes bs => { s with env.rioIn := s.env.rioIn ++ bs.flatMap lsbBits }
  | .keep k => { s with env.keep := k }

/-- All that a line tells of the environment, in order. -/
def installAll : List EnvItem → State → State
  | [], s => s
  | i :: rest, s => installAll rest (install i s)

/-- The head of the script is taken off. -/
def dropItem (s : State) : State := { s with env.script := s.env.script.tail }

/-- A line's turn has come: it leaves the script, TIME moves on to the line's, its context and its news of the
environment hold (R74, R116, R311). -/
def serveLine (l : Line) (s : State) : State :=
  installAll l.env { timeTo (l.time.getD 0) (dropItem s) with ctl.ctx := l.ctx }

/-- After a line the block is in task context again: a handler is one atomic step (R302, R331). -/
def backToTask (o : Host.Outcome State Fault Refusal) : Host.Outcome State Fault Refusal :=
  match o with
  | .next s => .next { s with ctl.ctx := .task }
  | .fault f => .fault f
  | .refused r => .refused r

end Sys2Proof.Machine
end

