-- ==== Sys2Proof/Machine/Dispatch.lean ====
section
/-! DEFINITION. The dispatch: one arm per constructor of Instr, each one direct call of its meaning. -/

namespace Sys2Proof.Machine

def exec (i : Instr) (s : State) : Host.Outcome State Fault Refusal :=
  match i with
  | .readSensor => Sys2Proof.Machine.execReadSensor s
  | .readClock => Sys2Proof.Machine.execReadClock s
  | .writeClock v => Sys2Proof.Machine.execWriteClock v s
  | .evPop => Sys2Proof.Machine.execEvPop s
  | .evWaitRead => Sys2Proof.Machine.execEvWaitRead s
  | .rotEnable a b => Sys2Proof.Machine.execRotEnable a b s
  | .rotDisable => Sys2Proof.Machine.execRotDisable s
  | .encEdge a b => Sys2Proof.Machine.execEncEdge a b s
  | .btnEdge l => Sys2Proof.Machine.execBtnEdge l s
  | .hostopReserved op arg => Sys2Proof.Machine.execHostopReserved op arg s
  | .waitLevel v => Sys2Proof.Machine.execWaitLevel v s
  | .sample => Sys2Proof.Machine.execSample s
  | .rtcWriteByte b => Sys2Proof.Machine.execRtcWriteByte b s
  | .rtcReadByte => Sys2Proof.Machine.execRtcReadByte s
  | .rtcPair cmd v => Sys2Proof.Machine.execRtcPair cmd v s
  | .burstRead => Sys2Proof.Machine.execBurstRead s
  | .evPush e => Sys2Proof.Machine.execEvPush e s
  | .cmdBurstRead => Sys2Proof.Machine.execCmdBurstRead s
  | .cmdWrSeconds => Sys2Proof.Machine.execCmdWrSeconds s
  | .cmdWrMinutes => Sys2Proof.Machine.execCmdWrMinutes s
  | .cmdWrHours => Sys2Proof.Machine.execCmdWrHours s
  | .cmdWrDay => Sys2Proof.Machine.execCmdWrDay s
  | .cmdWrMonth => Sys2Proof.Machine.execCmdWrMonth s
  | .cmdWrWeekday => Sys2Proof.Machine.execCmdWrWeekday s
  | .cmdWrYear => Sys2Proof.Machine.execCmdWrYear s
  | .cmdWrControl => Sys2Proof.Machine.execCmdWrControl s
  | .wpOff => Sys2Proof.Machine.execWpOff s
  | .wpOn => Sys2Proof.Machine.execWpOn s
  | .rdataSeconds tens units => Sys2Proof.Machine.execRdataSeconds tens units s
  | .rdataMinutes tens units => Sys2Proof.Machine.execRdataMinutes tens units s
  | .rdataHours tens units => Sys2Proof.Machine.execRdataHours tens units s
  | .rdataDay tens units => Sys2Proof.Machine.execRdataDay tens units s
  | .rdataMonth tens units => Sys2Proof.Machine.execRdataMonth tens units s
  | .rdataWeekday tens units => Sys2Proof.Machine.execRdataWeekday tens units s
  | .rdataYear tens units => Sys2Proof.Machine.execRdataYear tens units s
  | .rdataControl tens units => Sys2Proof.Machine.execRdataControl tens units s
  | .sframeHumInt b => Sys2Proof.Machine.execSframeHumInt b s
  | .sframeHumFrac b => Sys2Proof.Machine.execSframeHumFrac b s
  | .sframeTempInt b => Sys2Proof.Machine.execSframeTempInt b s
  | .sframeTempFrac b => Sys2Proof.Machine.execSframeTempFrac b s
  | .sframeChecksum b => Sys2Proof.Machine.execSframeChecksum b s
  | .q_00_00 => Sys2Proof.Machine.execQ0000 s
  | .q_00_01 => Sys2Proof.Machine.execQ0001 s
  | .q_00_10 => Sys2Proof.Machine.execQ0010 s
  | .q_00_11 => Sys2Proof.Machine.execQ0011 s
  | .q_01_00 => Sys2Proof.Machine.execQ0100 s
  | .q_01_01 => Sys2Proof.Machine.execQ0101 s
  | .q_01_10 => Sys2Proof.Machine.execQ0110 s
  | .q_01_11 => Sys2Proof.Machine.execQ0111 s
  | .q_10_00 => Sys2Proof.Machine.execQ1000 s
  | .q_10_01 => Sys2Proof.Machine.execQ1001 s
  | .q_10_10 => Sys2Proof.Machine.execQ1010 s
  | .q_10_11 => Sys2Proof.Machine.execQ1011 s
  | .q_11_00 => Sys2Proof.Machine.execQ1100 s
  | .q_11_01 => Sys2Proof.Machine.execQ1101 s
  | .q_11_10 => Sys2Proof.Machine.execQ1110 s
  | .q_11_11 => Sys2Proof.Machine.execQ1111 s
  | .evNone => Sys2Proof.Machine.execEvNone s
  | .evRotateCW => Sys2Proof.Machine.execEvRotateCW s
  | .evRotateCCW => Sys2Proof.Machine.execEvRotateCCW s
  | .evButtonDown => Sys2Proof.Machine.execEvButtonDown s
  | .evButtonUp => Sys2Proof.Machine.execEvButtonUp s
  | .lrecNone => Sys2Proof.Machine.execLrecNone s
  | .lrecRotPlus => Sys2Proof.Machine.execLrecRotPlus s
  | .lrecRotMinus => Sys2Proof.Machine.execLrecRotMinus s
  | .lrecBtn => Sys2Proof.Machine.execLrecBtn s
  | .errOK => Sys2Proof.Machine.execErrOK s
  | .errTimeout => Sys2Proof.Machine.execErrTimeout s
  | .errChecksumMismatch => Sys2Proof.Machine.execErrChecksumMismatch s
  | .errRangeError => Sys2Proof.Machine.execErrRangeError s
  | .errTransportError => Sys2Proof.Machine.execErrTransportError s

end Sys2Proof.Machine
end

