-- ==== Sys2Proof/Machine/Script.lean ====
section
/-! DEFINITION. The script's lines (R116), its pseudo-operations (R117), and how a line is served. Written for Step.lean,
which only calls it. -/

namespace Sys2Proof.Machine

/-! ### Lines -/

/-- A script line that runs an instruction that has a code (R116). -/
def lineOf (p : Params) (t : Option Nat) (env : List EnvItem) (i : Instr) : Line :=
  { mode := .run, time := t, ctx := .task, env := env, fmt := (formatOf i).getD .hostop, bytes := encode p i }

/-- `@t ENC a b` (R116). -/
def encLine (p : Params) (t : Nat) (a b : Bool) : Line := lineOf p (some t) [] (.encEdge a b)

/-- `@t BTN l` (R116). -/
def btnLine (p : Params) (t : Nat) (l : Bool) : Line := lineOf p (some t) [] (.btnEdge l)

/-- A line with a code and no more, served at `t` from task context. -/
def plainLine (t : Nat) (f : Format) (bytes : List Byte) : Line :=
  { mode := .run, time := some t, ctx := .task, env := [], fmt := f, bytes := bytes }

/-! ### Pseudo-operations (R117) -/

/-- `PRESS @t`. -/
def pressLine (p : Params) (t : Nat) : Line := btnLine p t p.btnActive

/-- `RELEASE @t`. -/
def releaseLine (p : Params) (t : Nat) : Line := btnLine p t (!p.btnActive)

/-- The successor of a raw state in the cycle 00, 10, 11, 01. -/
def cycleNext (q : RawState) : RawState :=
  match q.toNat with
  | 0 => 2
  | 2 => 3
  | 3 => 1
  | _ => 0

/-- The predecessor of a raw state in that cycle. -/
def cyclePrev (q : RawState) : RawState :=
  match q.toNat with
  | 0 => 1
  | 1 => 3
  | 3 => 2
  | _ => 0

/-- The raw state one step on: the successor for `cw = true`, the predecessor for `cw = false`, exchanged by `DIR_SWAP`. -/
def cycleStep (dirSwap cw : Bool) (q : RawState) : RawState := if cw != dirSwap then cycleNext q else cyclePrev q

/-- `STEP_CW @t` and `STEP_CCW @t` as the line they stand for when their turn comes: the one from the CURRENT `Q_PREV`,
whatever became of the edges before (a discarded, masked or disabled one has not moved it). -/
def stepLine (t : Nat) (cw : Bool) (s : State) : Line :=
  let q := cycleStep s.cfg.dirSwap cw s.quad.prev
  encLine s.cfg t (q.getLsbD 1) (q.getLsbD 0)

/-- `DETENT_CW @t d` and `DETENT_CCW @t d`: `N_DETENT` steps at `t`, `t + d`, … -/
def detentItems (p : Params) (cw : Bool) (t d : Nat) : List Item :=
  (List.range p.nDetent).map (fun k => .stepEdge (t + k * d) cw)

/-! ### Serving a line -/

/-- What a line's instruction does: a bus operation that is issued only begins or waits; every other is executed. -/
def runLine (l : Line) (i : Instr) (s : State) : Host.Outcome State Fault Refusal :=
  match l.mode, requestOf i with
  | .issue, some r => issueRequest r s
  | _, _ => exec i s

/-- The lines for which R116 requires a TIME: ENC and BTN. -/
def needsTime : Instr → Bool
  | .encEdge _ _ | .btnEdge _ => true
  | _ => false

/-- The line at the head of the script: it is decoded with the block's parameters; the sensor engine moves first where it
must; else the line is served and its instruction runs. Bytes left on the line after its one operation, for which R116 has
no line and names no outcome, are ignored (DESIGN CHOICE, log 33). -/
def takeLine (l : Line) (s : State) : Host.Outcome State Fault Refusal :=
  match decode s.cfg l.fmt l.bytes with
  | .error e => .refused (.unreadableLine e)
  | .ok (i, _) =>
    if needsTime i && l.time.isNone then .refused .edgeLineWithoutTime
    else if heldBack l i s then .next (sensorTick none s)
    else backToTask (runLine l i (serveLine l s))

end Sys2Proof.Machine
end

