-- ==== Sys2Proof/Machine/Step.lean ====
section
/-! DEFINITION. One step of the machine, and where the next instruction stands. -/

namespace Sys2Proof.Machine

/-- One step (log 9): with no item placed the block goes on by itself; a picked agent moves; a line is decoded, served and
executed; a step of the encoder is the line it stands for (R117). -/
def step (s : State) : Host.Outcome State Fault Refusal :=
  match s.env.script with
  | [] => .next (goOn s)
  | .pick p :: _ => .next (runPick p (dropItem s))
  | .line l :: _ => takeLine l s
  | .stepEdge t cw :: _ => takeLine (stepLine t cw s) s

/-- The word `w` of `nbits` bits of the opcode table stands at the head of the script, where `step` takes its next
instruction from, to be served at the present TIME (log 9, log 10). -/
def State.withFetchWord (s : State) (nbits w : Nat) : State :=
  match tableFormat s.cfg nbits w with
  | some f => { s with env.script := .line (plainLine s.time f (tableBytes nbits w)) :: s.env.script }
  | none => s

end Sys2Proof.Machine
end

