-- ==== Sys2Proof/Machine/Environment.lean ====
section
/-! DEFINITION. The environment as the spec describes it for scripts and tests, outside the block: the conforming sensor
(R63) and the ideal RTC device (R67). No step depends on it. -/

namespace Sys2Proof.Machine

/-! ### A conforming sensor -/

/-- The low and the high phase of one bit (R63). -/
def bitWave (p : Params) (bit : Bool) : List (Bool × Nat) := [(false, p.tBitLow), (true, if bit then p.tBit1 else p.tBit0)]

/-- The bits of a byte as the sensor sends them, most significant first (R68). -/
def msbBits (b : Byte) : List Bool := (lsbBits b).reverse

/-- The waveform of a conforming sensor that answers `lead` microseconds after the switch to input: the handshake, 40
bits, and a last low phase (R63). R63 gives the last low phase no length: `T_BITLOW_US`, as for the low phase of a bit, is
the model's (DESIGN CHOICE, log 35). -/
def conformingWave (p : Params) (lead : Nat) (f : Vector Byte 5) : List (Bool × Nat) :=
  [(true, lead), (false, p.tHs), (true, p.tHs)] ++ (f.toList.flatMap msbBits).flatMap (bitWave p) ++ [(false, p.tBitLow)]

/-! ### The ideal RTC device -/

/-- The location a write command selects (R101). -/
def locationOf (p : Params) (cmd : Byte) : Option (Fin 8) :=
  if cmd = p.cmdWrSeconds then some 0
  else if cmd = p.cmdWrMinutes then some 1
  else if cmd = p.cmdWrHours then some 2
  else if cmd = p.cmdWrDay then some 3
  else if cmd = p.cmdWrMonth then some 4
  else if cmd = p.cmdWrWeekday then some 5
  else if cmd = p.cmdWrYear then some 6
  else if cmd = p.cmdWrControl then some 7
  else none

/-- What one entry of the history does to the ideal device (R67): a write is stored if bit 7 of the control register is
0 or it is the control register itself. -/
def idealStep (p : Params) (dev : Vector Byte 8) : Event → Vector Byte 8
  | .memWrite cmd v =>
    match locationOf p cmd with
    | some r => if dev[7].getLsbD 7 = false ∨ r = 7 then dev.set r.val v else dev
    | none => dev
  | _ => dev

/-- The ideal device after a history (R67). -/
def idealDevice (p : Params) (dev : Vector Byte 8) (h : List Event) : Vector Byte 8 := h.foldl (idealStep p) dev

/-- What the ideal device presents to a burst read (R67). -/
def idealAnswer (dev : Vector Byte 8) : EnvItem := .rtcBytes dev.toList

end Sys2Proof.Machine
end

