-- ==== Sys2Proof/Safety.lean ====
section
/-! DEFINITION. What counts as a sound state of the block, in the spec's own terms, and the functions the spec gives
beside the machine: the transfer as a function of the waveform (R139), runs of edge events. Statements use them; the
machine does not. -/

namespace Sys2Proof.Machine

/-! ### Positions -/

/-- The positions of the sensor's critical section, from `HS1` to the 40th `BIT_LO` (R134). -/
def inCritical : SSeq → Bool
  | .hs1 | .hs2 | .hs3 | .bitHi _ | .bitSample _ | .bitLo _ => true
  | _ => false

/-- What the block does to SDATA at a position (R42, R61, R132, R133). -/
def sdataDriveAt : SSeq → Drive
  | .wake => .drive0
  | .release => .drive1
  | _ => .input

/-- The bits received at a position, while a transfer runs (R22, R139). -/
def bitsReceivedAt : SSeq → Option Nat
  | .bitHi i => some i.val
  | .bitSample i => some i.val
  | .bitLo i => some (i.val + 1)
  | .check => some 40
  | _ => none

/-- The positions at which the RTC engine holds the lock (R170, R174, R180). -/
def rtcHolds : CSeq → Bool
  | .rCmd | .rData _ | .wPair _ => true
  | _ => false

/-- The enable window is open before a micro-step (R161, R165, R166). -/
def windowOpen : CPhase → Bool
  | .rest | .settle | .finish => false
  | .lead | .command _ | .data _ | .trail | .close => true

/-- The clock is high before a micro-step: between the two edges of a bit (R163, R164). -/
def clockHigh : CPhase → Bool
  | .command q | .data q =>
    match q with
    | .turn | .high | .fall => true
    | _ => false
  | _ => false

/-- The micro-steps of a byte that is sent, with the turn-around or without it, or received (R163, R164, R167). -/
def inByte (k : ByteKind) (q : BitPhase) : Bool :=
  match k, q with
  | .into, .drive | .into, .turn | .out _ _, .sample | .out _ false, .turn => false
  | _, _ => true

/-- The micro-steps that belong to the position the engine is at (R165, R166, R170, R180): a read sends its command at
`R_CMD` and ends its window at `R_DATA(7)`; a write has both bytes in each pair and ends at pair 8. -/
def phaseFits (s : State) : Bool :=
  match s.rtc.seq, s.rtc.phase with
  | .idle, .rest | .rDecode, .rest | .wCheck, .rest => true
  | .rCmd, .rest | .rCmd, .lead => true
  | .rCmd, .command q => inByte (commandKind s) q
  | .rData _, .data q => inByte (dataKind s) q
  | .rData j, .trail | .rData j, .close | .rData j, .finish => decide (j.val = 7)
  | .wPair _, .rest | .wPair _, .lead | .wPair _, .trail | .wPair _, .close | .wPair _, .settle => true
  | .wPair _, .command q => inByte (commandKind s) q
  | .wPair _, .data q => inByte (dataKind s) q
  | .wPair p, .finish => decide (p.val = 8)
  | _, _ => false

/-- The byte in flight and the micro-step that is next in it, once it has begun. -/
def byteInFlight (s : State) : Option (ByteKind × BitPhase) :=
  match s.rtc.phase with
  | .command .load | .data .load => none
  | .command q => some (commandKind s, q)
  | .data q => some (dataKind s, q)
  | _ => none

/-- Where the block may drive RIO: from the command byte to the end of a pair, and in the command byte of a read up to the
turn-around in its eighth clock (R163, R165, R167). -/
def mayDriveRio (s : State) : Bool :=
  match s.rtc.seq, s.rtc.phase with
  | .rCmd, .command q => decide (s.rtc.bitcnt < 7) || (q != .high && q != .fall)
  | .wPair _, .command _ | .wPair _, .data _ | .wPair _, .trail | .wPair _, .close | .wPair _, .settle => true
  | _, _ => false

/-! ### The invariant -/

/-- What the spec promises of every state between two steps. -/
structure Inv (s : State) : Prop where
  /-- The sensor engine holds the lock exactly while it is not idle (R70, R130). -/
  lock_sensor : s.ctl.lock = .held .sensor ↔ s.sensor.seq ≠ .idle
  /-- The RTC engine holds the lock exactly during a transaction (R70, R170, R174, R180). -/
  lock_rtc : s.ctl.lock = .held .rtc ↔ rtcHolds s.rtc.seq = true
  /-- Interrupts are suppressed exactly in the critical section; never while the engine is idle (R134). -/
  mask_critical : s.ctl.mask = inCritical s.sensor.seq
  /-- SDATA is driven in `WAKE` and `RELEASE` only (R42, R61). -/
  sdata_drive : s.pins.sdata = sdataDriveAt s.sensor.seq
  /-- Each micro-step of the RTC engine is one of its position (R25, R48, R165, R166). -/
  rtc_phase : phaseFits s = true
  /-- The enable is high exactly in an enable window; outside a transaction it is low (R43, R161). -/
  rce_window : s.pins.rce = windowOpen s.rtc.phase
  /-- The clock is high exactly between the two edges of a bit; it idles low (R43, R161, R163, R164). -/
  rclk_pulse : s.pins.rclk = clockHigh s.rtc.phase
  /-- RIO is driven only while a byte goes out, and in a pair until its window has closed (R43, R165, R167). -/
  rio_released : mayDriveRio s = false → s.pins.rio = .input
  /-- The byte in flight is counted bit by bit, and while it goes out `C_SHIFT` holds it (R26, R163, R164). -/
  byte_counted : ∀ k q, byteInFlight s = some (k, q) → s.rtc.bitcnt < 8 ∧ ∀ b turn, k = .out b turn → s.rtc.shift = b
  /-- The turn-around is in the eighth clock (R167). -/
  turn_last : ∀ k, byteInFlight s = some (k, .turn) → s.rtc.bitcnt = 7
  /-- The bits of a frame are counted (R22). -/
  bits_counted : ∀ n, bitsReceivedAt s.sensor.seq = some n → s.sensor.bitcnt = n
  /-- `Q_ACC` stays strictly inside the thresholds (R31, R206). -/
  acc_inside : -(s.cfg.nDetent : Int) < s.quad.acc ∧ s.quad.acc < (s.cfg.nDetent : Int)
  /-- The last accepted interrupt is not in the future (R32, R45). -/
  quad_last : ∀ t, s.quad.last = some t → t ≤ s.time
  /-- The last accepted press is not in the future (R35, R45). -/
  button_last : ∀ t, s.button.last = some t → t ≤ s.time
  /-- `EV_AVAIL` says whether there is a record (R38). -/
  avail_record : s.chan.avail = true ↔ s.chan.record.kind ≠ .none
  /-- The direction bit is 0 unless the record is a rotation (R37, R113). -/
  record_dir : s.chan.record.kind ≠ .rot → s.chan.record.dir = false
  /-- `SERR` is OK, Timeout or ChecksumMismatch (R24). -/
  serr_codes : s.sensor.serr = .ok ∨ s.sensor.serr = .timeout ∨ s.sensor.serr = .checksumMismatch
  /-- `SERR_STEP` is the wait step of a Timeout, else 0 (R24). -/
  serr_step :
    (s.sensor.serr = .timeout → 1 ≤ s.sensor.serrStep ∧ s.sensor.serrStep ≤ 83) ∧
    (s.sensor.serr ≠ .timeout → s.sensor.serrStep = 0)
  /-- `CERR` is OK or RangeError (R28). -/
  cerr_codes : s.rtc.cerr = .ok ∨ s.rtc.cerr = .rangeError
  /-- A valid clock result is in the range that was checked (R46, R172). -/
  clock_range : s.rtc.valid = true → s.rtc.clock.second ≤ 59 ∧ s.rtc.clock.minute ≤ 59 ∧ s.rtc.clock.hour ≤ 23
  /-- A write under way has an operand in range, so that every field can be coded (R96, R181). -/
  write_range : (s.rtc.seq = .wCheck ∨ ∃ p, s.rtc.seq = .wPair p) → inRange s.rtc.wbuf = true
  /-- Between steps no handler runs (R302, R331). -/
  task_context : s.ctl.ctx = .task

/-! ### The transfer as a function (R139) -/

/-- What `SensorFrame()` returns. -/
inductive Transfer where
  | frame (f : Vector Byte 5)
  | timeoutAt (k : Nat)
deriving DecidableEq, Repr

/-- WAIT_LEVEL(v) on a waveform, from `now` microseconds after the switch to input (R140). -/
def waitOn (p : Params) (w : List (Bool × Nat)) (v : Bool) (now : Nat) : Option Nat :=
  pollUntil (waveLevel w) v p.tPoll p.waitMaxIter now

/-- The loop of `SensorFrame()` over the bits from `i` on, `n` of them left (R139). -/
def transferBits (p : Params) (w : List (Bool × Nat)) : Nat → Nat → Nat → Vector Byte 5 → Transfer
  | 0, _, _, f => .frame f
  | n + 1, i, now, f =>
    match waitOn p w true now with
    | none => .timeoutAt (4 + 2 * i)
    | some t =>
      let f' := if h : i < 40 then storeBit f ⟨i, h⟩ (waveLevel w (t + p.tSample)) else f
      match waitOn p w false (t + p.tSample) with
      | none => .timeoutAt (5 + 2 * i)
      | some t' => transferBits p w n (i + 1) t' f'

/-- `SensorFrame()` on a waveform (R139). -/
def transfer (p : Params) (w : List (Bool × Nat)) : Transfer :=
  match waitOn p w false 0 with
  | none => .timeoutAt 1
  | some t1 =>
    match waitOn p w true t1 with
    | none => .timeoutAt 2
    | some t2 =>
      match waitOn p w false t2 with
      | none => .timeoutAt 3
      | some t3 => transferBits p w 40 0 t3 (Vector.replicate 5 0)

/-! ### Runs of edge events -/

/-- `k` transitions, `d` microseconds apart, each an ENC_EDGE at the next raw state of the cycle 00, 10, 11, 01 for
`up = true`, at the previous one for `up = false` (R110, R117). -/
def turn (up : Bool) (d : Nat) : Nat → State → State
  | 0, s => s
  | k + 1, s =>
    let new := if up then cycleNext s.quad.prev else cyclePrev s.quad.prev
    turn up d k (encoderEdge (new.getLsbD 1) (new.getLsbD 0) (delay d s))

/-- Button edges at their times, in order: BTN_EDGE steps (R230). -/
def serveButtons : List (Nat × Bool) → State → State
  | [], s => s
  | (t, l) :: rest, s => serveButtons rest (buttonEdge l (timeTo t s))

/-- The entries alternate between two events, beginning with the first (R235). -/
def alternates (a b : Event) : List Event → Bool
  | [] => true
  | x :: rest => decide (x = a) && alternates b a rest

/-! ### A line's turn -/

/-- What a line's turn does to the state `s` before its instruction runs: the line is gone from the script, TIME is at the
line's, the context is the line's, what the line tells of the environment has joined the inputs, and nothing else has
changed (R74, R116, R311). -/
structure LineServed (l : Line) (items : List Item) (s u : State) : Prop where
  script : u.env.script = items
  time : u.time = max s.time (l.time.getD 0)
  ctl : u.ctl = { s.ctl with ctx := l.ctx }
  no_news : l.env = [] → u.env = { s.env with script := items }
  /-- News adds to the inputs and takes nothing away. -/
  sensor_in : s.env.sensorIn <+: u.env.sensorIn
  rio_in : s.env.rioIn <+: u.env.rioIn
  sensor : u.sensor = s.sensor
  rtc : u.rtc = s.rtc
  quad : u.quad = s.quad
  button : u.button = s.button
  chan : u.chan = s.chan
  pins : u.pins = s.pins
  aux : u.aux = s.aux
  trace : u.trace = s.trace
  cfg : u.cfg = s.cfg

/-! ### When an operation can begin -/

/-- A bus operation can begin from task context: the lock is free and both engines are idle with their pins (R42, R43,
R70). -/
structure Quiet (s : State) : Prop where
  task : s.ctl.ctx = .task
  lock_free : s.ctl.lock = .free
  sensor_idle : s.sensor.seq = .idle
  rtc_idle : s.rtc.seq = .idle
  rce_low : s.pins.rce = false
  rclk_low : s.pins.rclk = false
  rio_input : s.pins.rio = .input

/-- An encoder interrupt that the decoder accepts: enabled, not masked, not too soon (R201, R203). -/
structure Accepts (s : State) : Prop where
  enabled : s.quad.rotEn = true
  unmasked : s.ctl.mask = false
  in_time : ∀ t, s.quad.last = some t → s.cfg.tGlitch ≤ s.time - t

/-! ### The end of a sensor read -/

/-- READ_SENSOR has ended with the outcome `o`: the registers of R130 and R142 for it, the bus idle, the lock free,
interrupts on, and nothing else of the block written (R53, R296). -/
structure SensorEnds (s t : State) (o : Transfer) : Prop where
  result :
    match o with
    | .timeoutAt k =>
      t.sensor.valid = false ∧ t.sensor.serr = .timeout ∧ t.sensor.serrStep = k ∧
      t.trace.history = s.trace.history ++ [.sensorTimeout k]
    | .frame f =>
      t.trace.history = s.trace.history ++ [.sensorFrame f] ∧
      if (f[0].toNat + f[1].toNat + f[2].toNat + f[3].toNat) % 256 = f[4].toNat then
        t.sensor.valid = true ∧ t.sensor.temperature = f[2] ∧ t.sensor.humidity = f[0] ∧ t.sensor.serr = .ok ∧
        t.sensor.serrStep = 0
      else t.sensor.valid = false ∧ t.sensor.serr = .checksumMismatch ∧ t.sensor.serrStep = 0
  idle : t.sensor.seq = .idle
  ctl : t.ctl = { s.ctl with lock := .free, mask := false }
  pins : t.pins = { s.pins with sdata := .input }
  rtc : t.rtc = s.rtc
  quad : t.quad = s.quad
  button : t.button = s.button
  chan : t.chan = s.chan
  /-- The answer to the transfer is used up (log 6). -/
  env : t.env = { s.env with sensorIn := s.env.sensorIn.tail }
  cfg : t.cfg = s.cfg
  wake_time : s.time + s.cfg.tWake ≤ t.time

/-! ### Edges between the micro-steps of an RTC operation -/

/-- An edge event (R74). -/
inductive Edge where
  | enc (a b : Bool)
  | btn (l : Bool)
deriving DecidableEq, Repr

/-- The step of the handler of an edge event. -/
def serveEdge (e : Edge) (s : State) : State :=
  match e with
  | .enc a b => encoderEdge a b s
  | .btn l => buttonEdge l s

/-- Edge events served one after the other, each some time after the one before. -/
def serveEdges : List (Nat × Edge) → State → State
  | [], s => s
  | (d, e) :: rest, s => serveEdges rest (serveEdge e (delay d s))

/-- How much time passes before those edge events. -/
def edgeTime (es : List (Nat × Edge)) : Nat := (es.map Prod.fst).sum

/-- Micro-steps of the RTC engine, each with edge events served before it (R71, R187). -/
def rtcAmongEdges : List (List (Nat × Edge)) → State → State
  | [], s => s
  | es :: rest, s => rtcAmongEdges rest (rtcTick (serveEdges es s))

/-! ### What each operation writes (R53) -/

/-- The parts of the state that an operation writes or leaves, as the table of R53 names them, and the model's own. -/
inductive Part where
  | sSeq
  | frame
  | sres
  | serr
  | cSeq
  | cbuf
  | cshift
  | cres
  | cerr
  | wbuf
  | qPrev
  | qAcc
  | qLast
  | rotEn
  | latch
  | bLast
  | slot
  | record
  | lock
  | mask
  | pend
  | ctx
  | waiting
  | readers
  | sdata
  | rce
  | rclk
  | rio
  | encPins
  | btnPin
  | time
  | sensorIn
  | rioIn
  | keep
  | script
  | aux
  | history
  | rioLog
  | cfg
deriving DecidableEq, Repr

/-- The part holds the same in both states. -/
def Part.same (p : Part) (s t : State) : Prop :=
  match p with
  | .sSeq => t.sensor.seq = s.sensor.seq
  | .frame => t.sensor.frame = s.sensor.frame ∧ t.sensor.bitcnt = s.sensor.bitcnt
  | .sres => t.sensor.valid = s.sensor.valid ∧ t.sensor.temperature = s.sensor.temperature ∧ t.sensor.humidity = s.sensor.humidity
  | .serr => t.sensor.serr = s.sensor.serr ∧ t.sensor.serrStep = s.sensor.serrStep
  | .cSeq => t.rtc.seq = s.rtc.seq ∧ t.rtc.phase = s.rtc.phase
  | .cbuf => t.rtc.cbuf = s.rtc.cbuf
  | .cshift => t.rtc.shift = s.rtc.shift ∧ t.rtc.bitcnt = s.rtc.bitcnt
  | .cres => t.rtc.valid = s.rtc.valid ∧ t.rtc.clock = s.rtc.clock
  | .cerr => t.rtc.cerr = s.rtc.cerr
  | .wbuf => t.rtc.wbuf = s.rtc.wbuf
  | .qPrev => t.quad.prev = s.quad.prev
  | .qAcc => t.quad.acc = s.quad.acc
  | .qLast => t.quad.last = s.quad.last
  | .rotEn => t.quad.rotEn = s.quad.rotEn
  | .latch => t.button.latch = s.button.latch
  | .bLast => t.button.last = s.button.last
  | .slot => t.chan.slot = s.chan.slot
  | .record => t.chan.record = s.chan.record ∧ t.chan.avail = s.chan.avail
  | .lock => t.ctl.lock = s.ctl.lock
  | .mask => t.ctl.mask = s.ctl.mask
  | .pend => t.ctl.pend = s.ctl.pend
  | .ctx => t.ctl.ctx = s.ctl.ctx
  | .waiting => t.ctl.waiting = s.ctl.waiting
  | .readers => t.ctl.readers = s.ctl.readers
  | .sdata => t.pins.sdata = s.pins.sdata
  | .rce => t.pins.rce = s.pins.rce
  | .rclk => t.pins.rclk = s.pins.rclk
  | .rio => t.pins.rio = s.pins.rio
  | .encPins => t.pins.encA = s.pins.encA ∧ t.pins.encB = s.pins.encB
  | .btnPin => t.pins.btn = s.pins.btn
  | .time => t.time = s.time
  | .sensorIn => t.env.sensorIn = s.env.sensorIn
  | .rioIn => t.env.rioIn = s.env.rioIn
  | .keep => t.env.keep = s.env.keep
  | .script => t.env.script = s.env.script
  | .aux => t.aux = s.aux
  | .history => t.trace.history = s.trace.history
  | .rioLog => t.trace.rioLog = s.trace.rioLog
  | .cfg => t.cfg = s.cfg

/-- The parts an operation may write, by the table of R53 for the nine operations and by their own rules for the
others. TIME and the lists of what the environment sent move with the operations that let time pass or read a pin. -/
def partsWritten : Instr → List Part
  | .readSensor => [.sSeq, .frame, .sres, .serr, .lock, .mask, .waiting, .sdata, .time, .sensorIn, .aux, .history]
  | .readClock =>
    [.cSeq, .cbuf, .cshift, .cres, .cerr, .lock, .waiting, .rce, .rclk, .rio, .time, .rioIn, .aux, .history, .rioLog]
  | .writeClock _ => [.cSeq, .cshift, .cerr, .wbuf, .lock, .waiting, .rce, .rclk, .rio, .time, .history, .rioLog]
  | .evPop => [.slot, .history]
  | .evWaitRead => [.record, .readers, .history]
  | .rotEnable _ _ => [.qPrev, .qAcc, .qLast, .rotEn, .pend, .encPins]
  | .rotDisable => [.rotEn]
  | .encEdge _ _ => [.qPrev, .qAcc, .qLast, .pend, .encPins, .slot, .record, .history]
  | .btnEdge _ => [.latch, .bLast, .pend, .btnPin, .slot, .record, .history]
  | .hostopReserved _ _ => []
  | .waitLevel _ => [.time, .aux]
  | .sample => [.time, .aux]
  | .rtcWriteByte _ => [.cshift, .rclk, .rio, .time, .rioLog]
  | .rtcReadByte => [.cshift, .rclk, .time, .rioIn, .aux, .rioLog]
  | .rtcPair _ _ => [.cshift, .rce, .rclk, .rio, .time, .history, .rioLog]
  | .burstRead => [.cSeq, .cbuf, .cshift, .rce, .rclk, .rio, .time, .rioIn, .aux, .history, .rioLog]
  | .evPush _ => [.slot, .record, .history]
  | .cmdBurstRead | .cmdWrSeconds | .cmdWrMinutes | .cmdWrHours | .cmdWrDay | .cmdWrMonth | .cmdWrWeekday
  | .cmdWrYear | .cmdWrControl => [.cSeq, .cshift, .rce, .rclk, .rio, .time, .rioLog]
  | .wpOff => [.cSeq, .cshift, .rce, .rclk, .rio, .time, .history, .rioLog]
  | .wpOn => [.cSeq, .cshift, .cerr, .lock, .rce, .rclk, .rio, .time, .history, .rioLog]
  | .rdataSeconds _ _ | .rdataMinutes _ _ | .rdataHours _ _ | .rdataDay _ _ | .rdataMonth _ _ | .rdataWeekday _ _
  | .rdataYear _ _ => [.cSeq, .cbuf, .cshift, .rce, .rclk, .rio, .time, .aux, .history, .rioLog]
  | .rdataControl _ _ => [.cSeq, .cbuf, .cshift, .lock, .rce, .rclk, .time, .aux, .history, .rioLog]
  | .sframeHumInt _ | .sframeHumFrac _ | .sframeTempInt _ | .sframeTempFrac _ => [.sSeq, .frame, .time, .aux]
  | .sframeChecksum _ => [.sSeq, .frame, .mask, .time, .aux, .history]
  | .q_00_00 | .q_00_01 | .q_00_10 | .q_00_11 | .q_01_00 | .q_01_01 | .q_01_10 | .q_01_11 | .q_10_00 | .q_10_01
  | .q_10_10 | .q_10_11 | .q_11_00 | .q_11_01 | .q_11_10 | .q_11_11 =>
    [.qPrev, .qAcc, .qLast, .pend, .encPins, .slot, .record, .history]
  | .evNone | .evRotateCW | .evRotateCCW | .evButtonDown | .evButtonUp => [.slot, .history]
  | .lrecNone | .lrecRotPlus | .lrecRotMinus | .lrecBtn => [.record, .history]
  | .errOK => [.sSeq, .sres, .serr, .cSeq, .cres, .cerr, .lock, .mask, .sdata, .sensorIn]
  | .errTimeout => [.sSeq, .sres, .serr, .lock, .mask, .sdata, .time, .sensorIn, .aux, .history]
  | .errChecksumMismatch => [.sSeq, .sres, .serr, .lock, .mask, .sdata, .sensorIn, .aux]
  | .errRangeError => [.cSeq, .cres, .cerr, .aux]
  | .errTransportError => []

/-- The record codes, each with a record it stands for (R113). -/
def recordRows : List (Instr × Record) :=
  [(.lrecNone, ⟨.none, false⟩), (.lrecNone, ⟨.none, true⟩), (.lrecRotPlus, ⟨.rot, false⟩), (.lrecRotMinus, ⟨.rot, true⟩),
    (.lrecBtn, ⟨.btn, false⟩), (.lrecBtn, ⟨.btn, true⟩)]

end Sys2Proof.Machine
end

