-- ==== Sys2Proof/Certificates/Slice0/Obligations.lean ====
section
/-! DEFINITION. The statements for the provers. Each docstring names the rules of spec/ it rests on, and the log entry where
it rests on a choice of the model. -/

open Sys2Proof Sys2Proof.Machine

/-! ### Codes -/

/-- Every well-formed instruction with a code is read back from its code, whatever follows it and whatever the parameters,
if their command bytes are pairwise different (R91, R99, R101, R102, R109, R112, R113, R115, R291). -/
def Obligations.DecodeEncodeRoundTrip : Prop :=
  ∀ (p : Params) (i : Instr) (f : Format) (rest : List Byte), p.commands.Nodup → wellFormed i = true →
    formatOf i = some f → decode p f (encode p i ++ rest) = .ok (i, rest)

/-- What the decoder of any format but the frame's reads is well formed, of that format, and has exactly the code that was
read: no bit is dropped and no two codes are one instruction, but for the direction bit of the records None and Btn, which
R113 leaves open (a frame row is one byte of the five, R91). -/
def Obligations.DecodedCodeIsTheCodeRead : Prop :=
  ∀ (p : Params) (f : Format) (bytes rest : List Byte) (i : Instr), (∀ n, f ≠ .sframe n) →
    decode p f bytes = .ok (i, rest) → wellFormed i = true ∧ formatOf i = some f ∧
      (encode p i ++ rest = bytes ∨
        f = .lrec ∧ ∃ b ∈ [0b000#8, 0b100#8], bytes = (b ||| 1) :: rest ∧ encode p i = [b])

/-- The operation codes of R115, and that every code it reserves is refused. The operand of WRITE_CLOCK is seven bytes where
no number of it is above 254 (log 12). -/
def Obligations.HostopCodesAsNumbered : Prop :=
  ∀ (p : Params) (rest : List Byte),
    decode p .hostop (0x10 :: rest) = .ok (.readSensor, rest) ∧
    decode p .hostop (0x20 :: rest) = .ok (.readClock, rest) ∧
    (∀ s m h d mo w y : Byte, 0xFF ∉ [s, m, h, d, mo, w, y] →
      decode p .hostop (0x30 :: s :: m :: h :: d :: mo :: w :: y :: rest) =
        .ok (.writeClock ⟨s.toNat, m.toNat, h.toNat, d.toNat, mo.toNat, w.toNat, y.toNat⟩, rest)) ∧
    decode p .hostop (0x40 :: rest) = .ok (.evPop, rest) ∧
    decode p .hostop (0x50 :: rest) = .ok (.evWaitRead, rest) ∧
    (∀ a b : Bool, decode p .hostop (BitVec.ofNat 8 (0x60 + 2 * a.toNat + b.toNat) :: rest) =
      .ok (.rotEnable a b, rest)) ∧
    decode p .hostop (0x70 :: rest) = .ok (.rotDisable, rest) ∧
    (∀ a b : Bool, decode p .hostop (BitVec.ofNat 8 (0x80 + 2 * a.toNat + b.toNat) :: rest) =
      .ok (.encEdge a b, rest)) ∧
    (∀ l : Bool, decode p .hostop (BitVec.ofNat 8 (0x90 + l.toNat) :: rest) = .ok (.btnEdge l, rest)) ∧
    (∀ op arg : Fin 16,
      (op.val = 0 ∨ 10 ≤ op.val ∨ ((1 ≤ op.val ∧ op.val ≤ 5 ∨ op.val = 7) ∧ arg.val ≠ 0) ∨
        ((op.val = 6 ∨ op.val = 8) ∧ 4 ≤ arg.val) ∨ (op.val = 9 ∧ 2 ≤ arg.val)) →
      decode p .hostop (BitVec.ofNat 8 (16 * op.val + arg.val) :: rest) =
        .ok (.hostopReserved (BitVec.ofNat 4 op.val) (BitVec.ofNat 4 arg.val), rest) ∧
      ∀ s : State, exec (.hostopReserved (BitVec.ofNat 4 op.val) (BitVec.ofNat 4 arg.val)) s =
        .refused (.reservedCode (BitVec.ofNat 4 op.val) (BitVec.ofNat 4 arg.val)))

/-- Words written out bit by bit from the encodings of R91, R95, R101, R102, R109, R112, R113, R115 and R291, one of each
family, with the default parameters. -/
def Obligations.WordsWrittenOutDecode : Prop :=
  let p := Params.standard
  decode p .hostop [0b10000010] = .ok (.encEdge true false, []) ∧
  decode p .hostop [0b01100001] = .ok (.rotEnable false true, []) ∧
  decode p .rcmd [0b10111111] = .ok (.cmdBurstRead, []) ∧
  decode p .rcmd [0b10001010] = .ok (.cmdWrWeekday, []) ∧
  decode p (.wp true) [0b10000000] = .ok (.wpOn, []) ∧
  decode p (.rdata 0) [0b01010110] = .ok (.rdataSeconds 5 6, []) ∧
  decode p (.sframe 2) [0b00100011, 0, 0b00010101, 0, 0b00111000] = .ok (.sframeTempInt 0b00010101, []) ∧
  decode p .qidx [0b00001110] = .ok (.q_11_10, []) ∧
  decode p .evcode [0b00000010] = .ok (.evRotateCCW, []) ∧
  decode p .lrec [0b00000011] = .ok (.lrecRotMinus, []) ∧
  decode p .lrec [0b00000101] = .ok (.lrecBtn, []) ∧
  decode p .errcode [0b00000011] = .ok (.errRangeError, [])

/-- A script line that a reader must not take is refused by the step that would serve it, under its own name: HOSTOP codes
that are reserved, event codes 5 to 7, record codes with kind 3, result codes 5 to 7 (R118, R112, R113, R291), and an ENC
or BTN line without the TIME that R116 requires. -/
def Obligations.ReservedCodesAndTimelessEdgesAreRefused : Prop :=
  ∀ (s : State) (l : Line) (items : List Item), s.env.script = .line l :: items →
    (∀ op arg : Nibble, hostopAssigned op arg = false → heldBack l (.hostopReserved op arg) s = false →
      l.fmt = .hostop → l.bytes = [byteOf op arg] → step s = .refused (.reservedCode op arg)) ∧
    (∀ b : Byte, 5 ≤ b.toNat → b.toNat ≤ 7 → l.fmt = .evcode → l.bytes = [b] →
      step s = .refused (.unreadableLine .reservedEvent)) ∧
    (∀ b : Byte, 6 ≤ b.toNat → b.toNat ≤ 7 → l.fmt = .lrec → l.bytes = [b] →
      step s = .refused (.unreadableLine .reservedRecord)) ∧
    (∀ b : Byte, 5 ≤ b.toNat → b.toNat ≤ 7 → l.fmt = .errcode → l.bytes = [b] →
      step s = .refused (.unreadableLine .reservedResult)) ∧
    (∀ b : Byte, (0x80 ≤ b.toNat ∧ b.toNat ≤ 0x83) ∨ b.toNat = 0x90 ∨ b.toNat = 0x91 → l.fmt = .hostop →
      l.bytes = [b] → l.time = none → step s = .refused .edgeLineWithoutTime)

/-- The result code of a unit outside the block is refused in every state (R295, and item U7 of
93_implementation_defined.md). -/
def Obligations.TransportErrorIsRefused : Prop :=
  ∀ s : State, exec .errTransportError s = .refused .transportErrorOutsideBlock

/-! ### The step -/

/-- When a line stands at the head of the script and its bytes decode to a well-formed instruction, the step is exec of that
instruction in the state in which the line is served (LineServed says what serving a line does), and afterwards the block is
in task context again; but where the sensor engine must move first (heldBack), its micro-step is the step and the line
stays. A pseudo-operation STEP_CW or STEP_CCW is the ENC line to the next or the previous raw state of the current Q_PREV,
exchanged by `DIR_SWAP` (R117). The host's word of the opcode table is such a line (logs 8, 9, 10, 16, 33). -/
def Obligations.StepRunsDecodedInstruction : Prop :=
  (∀ (s : State) (l : Line) (items : List Item) (i : Instr) (rest : List Byte),
    s.env.script = .line l :: items → decode s.cfg l.fmt l.bytes = .ok (i, rest) → wellFormed i = true →
    (needsTime i = true → l.time ≠ none) →
    (heldBack l i s = true → step s = .next (sensorTick none s)) ∧
    (heldBack l i s = false → l.mode = .run ∨ requestOf i = none →
      step s = backToTask (exec i (serveLine l s)) ∧ LineServed l items s (serveLine l s))) ∧
  (∀ (s : State) (t : Nat) (cw : Bool) (items : List Item),
    let q := if cw = s.cfg.dirSwap then cyclePrev s.quad.prev else cycleNext s.quad.prev
    s.env.script = .stepEdge t cw :: items →
    heldBack (stepLine t cw s) (.encEdge (q.getLsbD 1) (q.getLsbD 0)) s = false →
    step s =
      backToTask (exec (.encEdge (q.getLsbD 1) (q.getLsbD 0))
        { s with env.script := items, time := max s.time t, ctl.ctx := .task })) ∧
  (∀ (s : State) (nbits w : Nat) (f : Format) (i : Instr) (rest : List Byte),
    tableFormat s.cfg nbits w = some f → decode s.cfg f (tableBytes nbits w) = .ok (i, rest) → wellFormed i = true →
    s.ctl.mask = false ∨ servedMasked i = true →
    (s.cfg = Params.standard → decodeTableWord nbits w = some i) ∧
    step (s.withFetchWord nbits w) = backToTask (exec i { s with ctl.ctx := .task }))

/-- A bus operation that is issued only begins or waits, its micro-steps left to later steps (R70, R71, log 8). Each branch
gives the whole state after the step, over the state `u` in which the line is served: READ_SENSOR and READ_CLOCK take the
lock and enter their first position; WRITE_CLOCK latches its operand and ends with RangeError or waits at W_CHECK; a
WRITE_CLOCK that was waiting there joins the waiting requests (log 13); what cannot begin joins them too, and nothing else
happens. -/
def Obligations.IssuedBusOperationBegins : Prop :=
  ∀ (s : State) (l : Line) (items : List Item) (rest : List Byte),
    s.env.script = .line l :: items → l.mode = .issue → l.ctx = .task →
    ∃ u, LineServed l items s u ∧
    (decode s.cfg l.fmt l.bytes = .ok (.readSensor, rest) → heldBack l .readSensor s = false →
      step s = .next
        (if s.ctl.lock = .free ∧ s.sensor.seq = .idle then
          { u with ctl.lock := .held .sensor, sensor.seq := .wake, pins.sdata := .drive0, aux.sClock := u.time }
        else { u with ctl.waiting := s.ctl.waiting ++ [.readSensor] })) ∧
    (decode s.cfg l.fmt l.bytes = .ok (.readClock, rest) → heldBack l .readClock s = false →
      step s = .next
        (if s.ctl.lock = .free ∧ s.rtc.seq = .idle then
          { u with ctl.lock := .held .rtc, rtc.seq := .rCmd, rtc.phase := .rest }
        else if s.ctl.lock = .free ∧ s.rtc.seq = .wCheck then
          { u with
            ctl.lock := .held .rtc
            ctl.waiting := s.ctl.waiting ++ [.writeClock s.rtc.wbuf]
            rtc.seq := .rCmd
            rtc.phase := .rest }
        else { u with ctl.waiting := s.ctl.waiting ++ [.readClock] })) ∧
    ∀ v, decode s.cfg l.fmt l.bytes = .ok (.writeClock v, rest) → heldBack l (.writeClock v) s = false →
      let latched : RtcRegs :=
        if inRange v then { s.rtc with seq := .wCheck, wbuf := v }
        else { s.rtc with seq := .idle, wbuf := v, cerr := .rangeError }
      step s = .next
        (if s.rtc.seq = .idle then { u with rtc := latched }
        else if s.rtc.seq = .wCheck then
          { u with rtc := latched, ctl.waiting := s.ctl.waiting ++ [.writeClock s.rtc.wbuf] }
        else { u with ctl.waiting := s.ctl.waiting ++ [.writeClock v] })

/-- What a sound state promises (the fields of Inv, each with its rule) every step keeps, whatever the script holds. -/
def Obligations.StepKeepsInvariant : Prop :=
  ∀ s t : State, Inv s → step s = .next t → Inv t

/-- The block right after RESET is sound with any parameters that R6 allows; the default parameters are as R6, R101 and D8
say, and so the fixed reset state is sound. -/
def Obligations.ResetMeetsInvariant : Prop :=
  (∀ p : Params, 1 ≤ p.nDetent → Inv (resetWith p)) ∧ Params.standard.wf = true ∧ Inv State.reset

/-- TIME never decreases, the parameters never change, and the event history only grows (R10, R45, R79). -/
def Obligations.StepKeepsTimeParametersHistory : Prop :=
  ∀ s t : State, step s = .next t →
    s.time ≤ t.time ∧ t.cfg = s.cfg ∧ s.trace.history <+: t.trace.history ∧ s.trace.rioLog <+: t.trace.rioLog

/-- The values that R47, R330 and R331 give for RESET; where they give none the model's values are log 3. -/
def Obligations.ResetValuesAsTabled : Prop :=
  State.reset.sensor.seq = .idle ∧ State.reset.rtc.seq = .idle ∧ State.reset.sensor.valid = false ∧
  State.reset.rtc.valid = false ∧ State.reset.sensor.serr.code = 0 ∧ State.reset.sensor.serrStep = 0 ∧
  State.reset.rtc.cerr.code = 0 ∧ State.reset.quad.acc = 0 ∧ State.reset.quad.last = none ∧
  State.reset.quad.rotEn = false ∧ State.reset.button.latch = false ∧ State.reset.button.last = none ∧
  State.reset.chan.slot.code = 0 ∧ State.reset.chan.record = ⟨.none, false⟩ ∧ State.reset.chan.avail = false ∧
  State.reset.ctl.lock = .free ∧ State.reset.ctl.mask = false ∧ State.reset.ctl.pend = ⟨false, false, false⟩ ∧
  State.reset.ctl.ctx = .task ∧ State.reset.ctl.waiting = [] ∧ State.reset.ctl.readers = 0 ∧
  State.reset.pins.sdata = .input ∧ State.reset.pins.rce = false ∧ State.reset.pins.rclk = false ∧
  State.reset.pins.rio = .input

/-! ### The whole machine -/

/-- An instruction leaves every register, pin and list of the state outside its row of the table of R53 as it was; the other
rows of the opcode table have lists of their own (partsWritten). Among its consequences: only ROT_ENABLE and ROT_DISABLE write
ROT_EN (R33), only BTN_EDGE the latch (R34), only READ_CLOCK and the codes of its end CRES (R184), and no bus operation the
event channel (R258) or the decoders (R296). -/
def Obligations.OperationsWriteOnlyTheirState : Prop :=
  ∀ (i : Instr) (s t : State) (p : Part), exec i s = .next t → p ∉ partsWritten i → p.same s t

/-- Of all instructions only ROT_ENABLE and ROT_DISABLE write the enable of the rotary source (R33). -/
def Obligations.EnableWrittenByEnableAndDisableOnly : Prop :=
  ∀ (i : Instr) (s t : State), exec i s = .next t → (∀ a b, i ≠ .rotEnable a b) → i ≠ .rotDisable →
    t.quad.rotEn = s.quad.rotEn

/-- From a handler, a bus operation is refused (R311, R346), each of its micro-operations and codes too, which wait or drive
a pin (R311, log 15), and so is every other host operation, with the codes that are its results (R266, logs 11 and 15). -/
def Obligations.HandlerOperationsRefused : Prop :=
  ∀ s : State, s.ctl.ctx = .interrupt →
    exec .readSensor s = .refused .busOperationFromHandler ∧ exec .readClock s = .refused .busOperationFromHandler ∧
    (∀ v, exec (.writeClock v) s = .refused .busOperationFromHandler) ∧
    exec .evPop s = .refused .hostOperationFromHandler ∧ exec .evWaitRead s = .refused .hostOperationFromHandler ∧
    (∀ a b, exec (.rotEnable a b) s = .refused .hostOperationFromHandler) ∧
    exec .rotDisable s = .refused .hostOperationFromHandler ∧
    (∀ v, exec (.waitLevel v) s = .refused .busOperationFromHandler) ∧
    exec .sample s = .refused .busOperationFromHandler ∧
    (∀ b, exec (.rtcWriteByte b) s = .refused .busOperationFromHandler) ∧
    exec .rtcReadByte s = .refused .busOperationFromHandler ∧
    (∀ cmd v, exec (.rtcPair cmd v) s = .refused .busOperationFromHandler) ∧
    exec .burstRead s = .refused .busOperationFromHandler ∧ exec .cmdBurstRead s = .refused .busOperationFromHandler ∧
    (∀ p, exec (commandRow p) s = .refused .busOperationFromHandler) ∧
    exec .wpOff s = .refused .busOperationFromHandler ∧ exec .wpOn s = .refused .busOperationFromHandler ∧
    (∀ j b, exec (rdataRow j b) s = .refused .busOperationFromHandler) ∧
    (∀ n b, exec (sframeRow n b) s = .refused .busOperationFromHandler) ∧
    (∀ i ∈ [Instr.errOK, .errTimeout, .errChecksumMismatch, .errRangeError],
      exec i s = .refused .busOperationFromHandler) ∧
    ∀ i ∈ [Instr.evNone, .evRotateCW, .evRotateCCW, .evButtonDown, .evButtonUp, .lrecNone,
      .lrecRotPlus, .lrecRotMinus, .lrecBtn], exec i s = .refused .hostOperationFromHandler

/-- Bus operations wait for the lock and are not refused; when it is free a waiting one takes it (R70, R148). A WRITE_CLOCK
whose operand is in range keeps it in WBUF and waits at W_CHECK (R29, R180); waiting there it bars no other operation: it
joins the waiting requests with its operand when another of its engine begins (R70, log 13). -/
def Obligations.BusOperationsWaitForTheLock : Prop :=
  ∀ s : State, s.ctl.ctx = .task →
    let displaced : State :=
      { s with rtc.seq := .idle, ctl.waiting := s.ctl.waiting ++ [.writeClock s.rtc.wbuf] }
    (s.ctl.lock ≠ .free →
      exec .readSensor s = .next { s with ctl.waiting := s.ctl.waiting ++ [.readSensor] } ∧
      exec .readClock s = .next { s with ctl.waiting := s.ctl.waiting ++ [.readClock] } ∧
      (∀ v, inRange v = true → s.rtc.seq = .idle →
        exec (.writeClock v) s = .next { s with rtc.wbuf := v, rtc.seq := .wCheck }) ∧
      (s.rtc.seq = .wCheck → rtcTick s = s) ∧
      ∀ n, s.ctl.waiting[n]? = some .readSensor ∨ s.ctl.waiting[n]? = some .readClock → runPick (.grant n) s = s) ∧
    (s.ctl.lock = .free →
      (s.rtc.seq = .wCheck →
        rtcTick s = { s with ctl.lock := .held .rtc, rtc.seq := .wPair 0, rtc.phase := .rest } ∧
        exec .readClock s = exec .readClock displaced) ∧
      (s.ctl.mask = false → ∀ n,
        (s.ctl.waiting[n]? = some .readSensor → s.sensor.seq = .idle →
          runPick (.grant n) s =
            { s with
              ctl.lock := .held .sensor
              ctl.waiting := s.ctl.waiting.eraseIdx n
              sensor.seq := .wake
              pins.sdata := .drive0
              aux.sClock := s.time }) ∧
        (s.ctl.waiting[n]? = some .readClock → s.rtc.seq = .idle ∨ s.rtc.seq = .wCheck →
          runPick (.grant n) s =
            { s with
              ctl.lock := .held .rtc
              ctl.waiting :=
                s.ctl.waiting.eraseIdx n ++ (if s.rtc.seq = .wCheck then [.writeClock s.rtc.wbuf] else [])
              rtc.seq := .rCmd
              rtc.phase := .rest }))) ∧
    (s.rtc.seq = .wCheck → ∀ v, exec (.writeClock v) s = exec (.writeClock v) displaced) ∧
    (s.ctl.mask = false → ∀ n v, s.ctl.waiting[n]? = some (.writeClock v) → inRange v = true →
      s.rtc.seq = .idle ∨ s.rtc.seq = .wCheck →
      runPick (.grant n) s =
        { s with
          ctl.waiting := s.ctl.waiting.eraseIdx n ++ (if s.rtc.seq = .wCheck then [.writeClock s.rtc.wbuf] else [])
          rtc.wbuf := v
          rtc.seq := .wCheck })

/-! ### The sensor -/

/-- READ_SENSOR as a function of the outcome of the transfer (R150), with the register writes of R130 and R142. -/
def Obligations.SensorReadByOutcome : Prop :=
  ∀ s : State, s.ctl.ctx = .task → s.ctl.lock = .free → s.sensor.seq = .idle →
    (∀ f, sensorAnswer s = .frame f → ∃ t, exec .readSensor s = .next t ∧ SensorEnds s t (.frame f)) ∧
    (∀ k, 1 ≤ k → k ≤ 83 → sensorAnswer s = .timeoutAt k →
      ∃ t, exec .readSensor s = .next t ∧ SensorEnds s t (.timeoutAt k))

/-- READ_SENSOR against a waveform ends as the function `transfer`, the pseudocode of R139, says for that waveform. -/
def Obligations.SensorReadFollowsWaveform : Prop :=
  ∀ (s : State) (w : List (Bool × Nat)), s.ctl.ctx = .task → s.ctl.lock = .free → s.sensor.seq = .idle →
    sensorAnswer s = .wave w →
    ∃ t, exec .readSensor s = .next t ∧ SensorEnds s t (transfer s.cfg w)

/-- The frame a conforming sensor sends is the frame received, most significant bit of each byte first, whenever its phases
lie inside the wait budget and on their sides of the sample delay (R63, R92, R136, R137, R139, R140). The poll unit is one
microsecond; the length of the last low phase is log 35. -/
def Obligations.ConformingSensorIsDecoded : Prop :=
  ∀ (p : Params) (lead : Nat) (f : Vector Byte 5), p.tPoll = 1 → lead ≤ p.waitMaxIter →
    1 ≤ p.tHs → p.tHs ≤ p.waitMaxIter → 1 ≤ p.tBitLow → p.tBitLow ≤ p.waitMaxIter →
    1 ≤ p.tBit0 → p.tBit0 ≤ p.tSample → p.tSample < p.tBit0 + p.tBitLow →
    p.tSample < p.tBit1 → p.tBit1 ≤ p.tSample + p.waitMaxIter →
    transfer p (conformingWave p lead f) = .frame f

/-- No sensor: Timeout(1) when the budget is over. A line stuck low: Timeout(2). A conforming sensor that stops after the
low phase of bit `i`: Timeout(5 + 2i) (R143). The budget is `WAIT_MAX_ITER` polls (log 34). -/
def Obligations.SilentAndStuckSensorTimeOut : Prop :=
  (∀ s : State, s.ctl.ctx = .task → s.ctl.lock = .free → s.sensor.seq = .idle →
    (sensorAnswer s = .wave [] → ∃ t, exec .readSensor s = .next t ∧ SensorEnds s t (.timeoutAt 1) ∧
      t.time = s.time + s.cfg.tWake + s.cfg.tRel + s.cfg.waitMaxIter * s.cfg.tPoll) ∧
    (∀ d, s.cfg.waitMaxIter * s.cfg.tPoll < d → sensorAnswer s = .wave [(false, d)] →
      ∃ t, exec .readSensor s = .next t ∧ SensorEnds s t (.timeoutAt 2))) ∧
  (∀ (p : Params) (lead : Nat) (f : Vector Byte 5) (i : Fin 40), p.tPoll = 1 → lead ≤ p.waitMaxIter →
    1 ≤ p.tHs → p.tHs ≤ p.waitMaxIter → 1 ≤ p.tBitLow → p.tBitLow ≤ p.waitMaxIter →
    1 ≤ p.tBit0 → p.tBit0 ≤ p.tSample → p.tSample < p.tBit0 + p.tBitLow →
    p.tSample < p.tBit1 → p.tBit1 ≤ p.tSample + p.waitMaxIter →
    transfer p ((conformingWave p lead f).take (4 + 2 * i.val)) = .timeoutAt (5 + 2 * i.val))

/-- Whatever the sensor does, READ_SENSOR ends with the sequencer idle, interrupts on, the line released, the lock free,
one reading or one error in the result registers, and no other unit touched (R134, R142, R264, R296, R298). -/
def Obligations.SensorReadAlwaysEnds : Prop :=
  ∀ s : State, s.ctl.ctx = .task → s.ctl.lock = .free → s.sensor.seq = .idle →
    ∃ t, exec .readSensor s = .next t ∧ t.sensor.seq = .idle ∧ t.ctl.mask = false ∧ t.pins.sdata = .input ∧
      t.ctl.lock = .free ∧
      ((t.sensor.valid = true ∧ t.sensor.serr = .ok ∧ t.sensor.serrStep = 0) ∨
        (t.sensor.valid = false ∧ t.sensor.serr = .timeout ∧ 1 ≤ t.sensor.serrStep ∧ t.sensor.serrStep ≤ 83) ∨
        (t.sensor.valid = false ∧ t.sensor.serr = .checksumMismatch ∧ t.sensor.serrStep = 0)) ∧
      t.rtc = s.rtc ∧ t.quad = s.quad ∧ t.button = s.button ∧ t.chan = s.chan

/-- Changing exactly one byte of a good frame breaks its checksum, and READ_SENSOR answers ChecksumMismatch; changing two
need not (R146). -/
def Obligations.OneCorruptByteBreaksChecksum : Prop :=
  (∀ (f : Vector Byte 5) (n : Fin 5) (b : Byte), checksumGood f = true → b ≠ f[n.val] →
    checksumGood (f.set n.val b) = false ∧
    ∀ s : State, s.ctl.ctx = .task → s.ctl.lock = .free → s.sensor.seq = .idle →
      sensorAnswer s = .frame (f.set n.val b) →
      ∃ t, exec .readSensor s = .next t ∧ t.sensor.valid = false ∧ t.sensor.serr = .checksumMismatch) ∧
  (∀ f : Vector Byte 5, checksumGood f = true → checksumGood ((f.set 0 (f[0] + 1)).set 2 (f[2] - 1)) = true)

/-- WAIT_LEVEL(v) on a waveform (R140): ok at the first poll that finds the level, the last of which is at the end of the
budget, `WAIT_MAX_ITER` polls (log 34); timeout when none does. Against an outcome it times out exactly at the wait step the
outcome names (R62, log 7). -/
def Obligations.WaitLevelPollsWithinBudget : Prop :=
  ∀ (s : State) (v : Bool), s.ctl.ctx = .task →
    (∀ (w : List (Bool × Nat)) (n : Nat), sensorAnswer s = .wave w → n ≤ s.cfg.waitMaxIter →
      (∀ m, m < n → sdataLevel s.pins.sdata w (s.aux.sClock + m * s.cfg.tPoll - s.aux.sHs1) ≠ v) →
      sdataLevel s.pins.sdata w (s.aux.sClock + n * s.cfg.tPoll - s.aux.sHs1) = v →
      exec (.waitLevel v) s =
        .next { s with
          time := max s.time (s.aux.sClock + n * s.cfg.tPoll)
          aux.sClock := s.aux.sClock + n * s.cfg.tPoll
          aux.waitOk := true }) ∧
    (∀ w : List (Bool × Nat), sensorAnswer s = .wave w →
      (∀ n, n ≤ s.cfg.waitMaxIter →
        sdataLevel s.pins.sdata w (s.aux.sClock + n * s.cfg.tPoll - s.aux.sHs1) ≠ v) →
      exec (.waitLevel v) s =
        .next { s with
          time := max s.time (s.aux.sClock + s.cfg.waitMaxIter * s.cfg.tPoll)
          aux.sClock := s.aux.sClock + s.cfg.waitMaxIter * s.cfg.tPoll
          aux.waitOk := false }) ∧
    (∀ f, sensorAnswer s = .frame f →
      exec (.waitLevel v) s = .next { s with time := max s.time s.aux.sClock, aux.waitOk := true }) ∧
    (∀ k, sensorAnswer s = .timeoutAt k → ∃ t, exec (.waitLevel v) s = .next t ∧
      (t.aux.waitOk = false ↔ waitStep s.sensor.seq = some k) ∧
      t = { s with time := t.time, aux.sClock := t.aux.sClock, aux.waitOk := t.aux.waitOk })

/-- SAMPLE (R137): the sample delay passes, then the level of the line is read; nothing else happens. Against a frame the
level is the frame's bit in turn (R92); elsewhere any level (log 7). -/
def Obligations.SampleReadsLineAfterDelay : Prop :=
  ∀ s : State, s.ctl.ctx = .task → ∃ bit : Bool,
    exec .sample s =
      .next { s with
        time := max s.time (s.aux.sClock + s.cfg.tSample)
        aux.sClock := s.aux.sClock + s.cfg.tSample
        aux.sampled := bit
        aux.freeCtr := s.aux.freeCtr + 1 } ∧
    (∀ w, sensorAnswer s = .wave w →
      bit = sdataLevel s.pins.sdata w (s.aux.sClock + s.cfg.tSample - s.aux.sHs1)) ∧
    (∀ f i, sensorAnswer s = .frame f → s.sensor.seq = .bitSample i →
      bit = (f[i.val / 8]'(by omega)).getLsbD (7 - i.val % 8))

/-- The frame-byte codes: met at the first bit of their byte they fill that byte of FRAME with their operand, most
significant bit first, whatever it held, count its eight bits, and after the last byte end the critical section (R91, R92,
R131, R134, R138). -/
def Obligations.FrameBytesFillFrame : Prop :=
  ∀ (s : State) (n : Fin 5) (b : Byte) (h : 8 * n.val < 40), s.ctl.ctx = .task → s.sensor.seq = .bitHi ⟨8 * n.val, h⟩ →
    ∃ t, exec (sframeRow n b) s = .next t ∧
      t.sensor =
        { s.sensor with
          frame := s.sensor.frame.set n.val b
          bitcnt := 8 * n.val + 8
          seq := if h' : 8 * n.val + 8 < 40 then .bitHi ⟨8 * n.val + 8, h'⟩ else .check } ∧
      t.ctl = { s.ctl with mask := if n.val = 4 then false else s.ctl.mask } ∧
      t.trace.history =
        s.trace.history ++ (if n.val = 4 then [.sensorFrame (s.sensor.frame.set n.val b)] else []) ∧
      t.pins = s.pins ∧ t.env = s.env

/-- The codes of a sensor read's result end the operation where their cause holds: Timeout at a wait step whose level does
not come within the budget, ChecksumMismatch and OK at CHECK (R141, R142, R291, R292, R293, R296). -/
def Obligations.SensorResultCodesEndTheRead : Prop :=
  ∀ s : State, s.ctl.ctx = .task → s.ctl.lock = .held .sensor →
    (∀ v k, wantedLevel s.sensor.seq = some v → waitStep s.sensor.seq = some k →
      (sensorAnswer s = .timeoutAt k ∨
        ∃ w, sensorAnswer s = .wave w ∧ ∀ n, n ≤ s.cfg.waitMaxIter →
          sdataLevel s.pins.sdata w (s.aux.sClock + n * s.cfg.tPoll - s.aux.sHs1) ≠ v) →
      ∃ t, exec .errTimeout s = .next t ∧ t.sensor.seq = .idle ∧ t.sensor.valid = false ∧ t.sensor.serr.code = 1 ∧
        t.sensor.serrStep = k ∧ t.ctl = { s.ctl with lock := .free, mask := false } ∧
        t.pins = { s.pins with sdata := .input } ∧ t.trace.history = s.trace.history ++ [.sensorTimeout k]) ∧
    (s.sensor.seq = .check →
      if (s.sensor.frame[0].toNat + s.sensor.frame[1].toNat + s.sensor.frame[2].toNat + s.sensor.frame[3].toNat) % 256
          = s.sensor.frame[4].toNat then
        exec .errOK s =
          .next { s with
            sensor :=
              { s.sensor with
                seq := .idle
                valid := true
                temperature := s.sensor.frame[2]
                humidity := s.sensor.frame[0]
                serr := .ok
                serrStep := 0 }
            ctl.lock := .free
            ctl.mask := false
            pins.sdata := .input
            env.sensorIn := s.env.sensorIn.tail }
      else
        ∃ t, exec .errChecksumMismatch s = .next t ∧ t.sensor.seq = .idle ∧ t.sensor.valid = false ∧
          t.sensor.serr.code = 2 ∧ t.sensor.serrStep = 0 ∧ t.ctl = { s.ctl with lock := .free, mask := false } ∧
          t.pins = { s.pins with sdata := .input } ∧ t.trace = s.trace ∧ t.time = s.time)

/-! ### The RTC engine -/

/-- RTC_WRITE_BYTE (R163): the bits on RIO at the eight rising edges are those of the byte, least significant first, two
half-bits each; C_SHIFT holds the byte. -/
def Obligations.WriteByteGoesOutLsbFirst : Prop :=
  ∀ (s : State) (b : Byte), s.ctl.ctx = .task →
    exec (.rtcWriteByte b) s =
      .next { s with
        rtc.shift := b
        rtc.bitcnt := 8
        pins.rio := driveOf (b.getLsbD 7)
        pins.rclk := false
        time := s.time + 16 * s.cfg.tHalfbit
        trace.rioLog := s.trace.rioLog ++ (List.range 8).map b.getLsbD }

/-- RTC_READ_BYTE (R164) with RIO an input: bit `i` of the result is the `i`-th level the device presents, any level where
it presents none; two half-bits each; C_SHIFT holds the byte. -/
def Obligations.ReadByteComesInLsbFirst : Prop :=
  ∀ s : State, s.ctl.ctx = .task → s.pins.rio = .input → ∃ v : Byte,
    exec .rtcReadByte s =
      .next { s with
        rtc.shift := v
        rtc.bitcnt := 8
        pins.rclk := false
        time := s.time + 16 * s.cfg.tHalfbit
        env.rioIn := s.env.rioIn.drop 8
        aux.freeCtr := s.aux.freeCtr + 8
        trace.rioLog := s.trace.rioLog ++ (List.range 8).map v.getLsbD } ∧
    ∀ (i : Nat) (bit : Bool), i < 8 → s.env.rioIn[i]? = some bit → v.getLsbD i = bit

/-- RTC_PAIR (R165): one enable window with the command byte and the data byte in it, RIO released after it, and the pair
in the event history (R79). -/
def Obligations.PairIsOneWindowOfTwoBytes : Prop :=
  ∀ (s : State) (cmd v : Byte), s.ctl.ctx = .task →
    (pairOpen cmd s).pins.rce = true ∧ (writeByte false v (pairOpen cmd s)).pins.rce = true ∧
    exec (.rtcPair cmd v) s =
      .next { s with
        rtc.shift := v
        rtc.bitcnt := 8
        pins.rce := false
        pins.rclk := false
        pins.rio := .input
        time := s.time + 34 * s.cfg.tHalfbit
        trace.history := s.trace.history ++ [.memWrite cmd v]
        trace.rioLog := s.trace.rioLog ++ (List.range 8).map cmd.getLsbD ++ (List.range 8).map v.getLsbD }

/-- BURST_READ (R166): one enable window, the command byte out, then eight bytes in, in order, into CBUF; the bytes are
what the device presents, any bytes where it presents none; the transaction joins the history (R79). -/
def Obligations.BurstReadFillsBuffer : Prop :=
  ∀ s : State, s.ctl.ctx = .task → ∃ d : Vector Byte 8,
    exec .burstRead s =
      .next { s with
        rtc := { s.rtc with seq := .rData 7, cbuf := d, shift := d[7], bitcnt := 8 }
        pins.rce := false
        pins.rclk := false
        pins.rio := .input
        time := s.time + 146 * s.cfg.tHalfbit
        env.rioIn := s.env.rioIn.drop 64
        aux.freeCtr := s.aux.freeCtr + 64
        trace.history := s.trace.history ++ [.memRead s.cfg.cmdBurstRead d]
        trace.rioLog :=
          s.trace.rioLog ++ (List.range 8).map s.cfg.cmdBurstRead.getLsbD ++
            d.toList.flatMap (fun b => (List.range 8).map b.getLsbD) } ∧
    ∀ (bytes : Vector Byte 8) (rest : List Bool), s.env.rioIn = bytes.toList.flatMap lsbBits ++ rest → d = bytes

/-- READ_CLOCK (R170, R172, R173) from a quiet bus: the eight bytes of one burst, masked by the parameter of R103, are
decoded; out of range or no hour gives RangeError, else the seven fields are written together. Lock, pins and sequencer end
free and idle; no other unit is written (R174, R296). -/
def Obligations.ReadClockDecodesTheBurst : Prop :=
  ∀ s : State, Quiet s → ∃ (t : State) (d : Vector Byte 8),
    exec .readClock s = .next t ∧
    (∀ (bytes : Vector Byte 8) (rest : List Bool), s.env.rioIn = bytes.toList.flatMap lsbBits ++ rest →
      d = bytes ∧ t.env = { s.env with rioIn := rest }) ∧
    t.trace.history = s.trace.history ++ [.memRead s.cfg.cmdBurstRead d] ∧
    t.rtc.cbuf = d ∧ t.rtc.seq = .idle ∧ t.rtc.wbuf = s.rtc.wbuf ∧ t.ctl = s.ctl ∧ t.pins = s.pins ∧
    t.sensor = s.sensor ∧ t.quad = s.quad ∧ t.button = s.button ∧ t.chan = s.chan ∧
    (let sec := bcdDec (d[0] &&& s.cfg.mask[0])
     let min := bcdDec (d[1] &&& s.cfg.mask[1])
     match hourDec s.cfg.hour12 (d[2] &&& s.cfg.mask[2]) with
     | none => t.rtc.valid = false ∧ t.rtc.cerr = .rangeError
     | some h =>
       if sec > 59 ∨ min > 59 ∨ h > 23 then t.rtc.valid = false ∧ t.rtc.cerr = .rangeError
       else
         t.rtc.valid = true ∧ t.rtc.cerr = .ok ∧
         t.rtc.clock =
           { second := sec
             minute := min
             hour := h
             day := bcdDec (d[3] &&& s.cfg.mask[3])
             month := bcdDec (d[4] &&& s.cfg.mask[4])
             weekday := bcdDec (d[5] &&& s.cfg.mask[5])
             year := bcdDec (d[6] &&& s.cfg.mask[6]) })

/-- `hour_dec` (R171): bit 7 clear, the byte in BCD; bit 7 set, under `reconstruct` the hour of bits 4 to 0 from 1 to 12
with bit 5 for the afternoon, else invalid; under `reject` always invalid. -/
def Obligations.HourByteDecoding : Prop :=
  ∀ b : Byte,
    let h12 := 10 * (b.toNat / 16 % 2) + b.toNat % 16
    (b.toNat < 128 → ∀ policy, hourDec policy b = some (10 * (b.toNat / 16) + b.toNat % 16)) ∧
    (128 ≤ b.toNat → hourDec .reject b = none) ∧
    (128 ≤ b.toNat → (h12 < 1 ∨ h12 > 12) → hourDec .reconstruct b = none) ∧
    (128 ≤ b.toNat → 1 ≤ h12 → h12 ≤ 12 →
      hourDec .reconstruct b = some (h12 % 12 + 12 * (b.toNat / 32 % 2)))

/-- BCD coding (R95, R96) and its round trips (R97). -/
def Obligations.BcdRoundTrip : Prop :=
  (∀ b : Byte, bcdDec b = 10 * (b.toNat / 16) + b.toNat % 16) ∧
  (∀ b : Byte, b.toNat / 16 ≤ 9 → b.toNat % 16 ≤ 9 → bcdDec b ≤ 99) ∧
  (∀ v : Nat, v ≤ 99 → (bcdEnc v).toNat = 16 * (v / 10) + v % 10 ∧ bcdDec (bcdEnc v) = v) ∧
  (∀ b : Byte, b.toNat / 16 ≤ 9 → b.toNat % 16 ≤ 9 → bcdEnc (bcdDec b) = b)

/-- WRITE_CLOCK with an operand in range, from a quiet bus (R180, R182, R183, R184): the history gains the nine pairs in
order and nothing else, each in two bytes on the wire, the result is OK, and of the result registers only CERR is
written. -/
def Obligations.WriteClockSendsNinePairs : Prop :=
  ∀ (s : State) (v : ClockValue), Quiet s → inRange v = true →
    let pairs : List (Byte × Byte) :=
      [(s.cfg.cmdWrControl, s.cfg.wpOff), (s.cfg.cmdWrSeconds, bcdEnc v.second), (s.cfg.cmdWrMinutes, bcdEnc v.minute),
        (s.cfg.cmdWrHours, bcdEnc v.hour), (s.cfg.cmdWrDay, bcdEnc v.day), (s.cfg.cmdWrMonth, bcdEnc v.month),
        (s.cfg.cmdWrWeekday, bcdEnc v.weekday), (s.cfg.cmdWrYear, bcdEnc v.year), (s.cfg.cmdWrControl, s.cfg.wpOn)]
    exec (.writeClock v) s =
      .next { s with
        rtc := { s.rtc with seq := .idle, phase := .rest, wbuf := v, shift := s.cfg.wpOn, bitcnt := 8, cerr := .ok }
        time := s.time + 306 * s.cfg.tHalfbit
        trace.history := s.trace.history ++ pairs.map (fun q => .memWrite q.1 q.2)
        trace.rioLog :=
          s.trace.rioLog ++
            pairs.flatMap (fun q => (List.range 8).map q.1.getLsbD ++ (List.range 8).map q.2.getLsbD) }

/-- WRITE_CLOCK with any field out of range (R181): RangeError, with no pin moved and no byte sent, even while another
operation holds the lock. A WRITE_CLOCK that was waiting at W_CHECK goes on waiting, among the requests (log 13). -/
def Obligations.WriteClockRejectsOutOfRange : Prop :=
  ∀ (s : State) (v : ClockValue), s.ctl.ctx = .task →
    ¬(v.second ≤ 59 ∧ v.minute ≤ 59 ∧ v.hour ≤ 23 ∧ 1 ≤ v.day ∧ v.day ≤ 31 ∧ 1 ≤ v.month ∧ v.month ≤ 12 ∧
      1 ≤ v.weekday ∧ v.weekday ≤ 7 ∧ v.year ≤ 99) →
    (s.rtc.seq = .idle → exec (.writeClock v) s = .next { s with rtc.wbuf := v, rtc.cerr := .rangeError }) ∧
    (s.rtc.seq = .wCheck →
      exec (.writeClock v) s =
        .next { s with
          rtc := { s.rtc with seq := .idle, wbuf := v, cerr := .rangeError }
          ctl.waiting := s.ctl.waiting ++ [.writeClock s.rtc.wbuf] })

/-- The command codes: the nine of a write open the window of their pair and send the pair's command byte; the burst
command opens its window and is sent with the turn-around, RIO released (R101, R163, R165, R166, R167). -/
def Obligations.CommandBytesGoOut : Prop :=
  (∀ (s : State) (p : Fin 9), s.ctl.ctx = .task → s.rtc.seq = .wPair p → s.rtc.phase = .rest →
    let cmd := [s.cfg.cmdWrControl, s.cfg.cmdWrSeconds, s.cfg.cmdWrMinutes, s.cfg.cmdWrHours, s.cfg.cmdWrDay,
      s.cfg.cmdWrMonth, s.cfg.cmdWrWeekday, s.cfg.cmdWrYear, s.cfg.cmdWrControl].getD p.val 0
    exec (commandRow p) s =
      .next { s with
        rtc.shift := cmd
        rtc.bitcnt := 8
        rtc.phase := .data .load
        pins.rce := true
        pins.rclk := false
        pins.rio := driveOf (cmd.getLsbD 7)
        time := s.time + 17 * s.cfg.tHalfbit
        trace.rioLog := s.trace.rioLog ++ (List.range 8).map cmd.getLsbD }) ∧
  (∀ s : State, s.ctl.ctx = .task → s.rtc.seq = .rCmd → s.rtc.phase = .rest →
    exec .cmdBurstRead s =
      .next { s with
        rtc.seq := .rData 0
        rtc.phase := .data .load
        rtc.shift := s.cfg.cmdBurstRead
        rtc.bitcnt := 8
        pins.rce := true
        pins.rclk := false
        pins.rio := .input
        time := s.time + 17 * s.cfg.tHalfbit
        trace.rioLog := s.trace.rioLog ++ (List.range 8).map s.cfg.cmdBurstRead.getLsbD })

/-- The data codes in a write: where the data byte of their pair is due, a field's byte, `WP_OFF` and `WP_ON` go out, the window
closes and the pair joins the history; `WP_ON` ends WRITE_CLOCK with OK and frees the lock (R102, R165, R180). -/
def Obligations.DataBytesOfAWrite : Prop :=
  ∀ s : State, s.ctl.ctx = .task → s.rtc.phase = .data .load →
    (∀ (j : Fin 7) (b : Byte), s.rtc.seq = .wPair ⟨j.val + 1, by omega⟩ →
      b = bcdEnc ([s.rtc.wbuf.second, s.rtc.wbuf.minute, s.rtc.wbuf.hour, s.rtc.wbuf.day, s.rtc.wbuf.month,
        s.rtc.wbuf.weekday, s.rtc.wbuf.year].getD j.val 0) →
      ∃ t, exec (rdataRow ⟨j.val, by omega⟩ b) s = .next t ∧ t.rtc.seq = .wPair ⟨j.val + 2, by omega⟩ ∧
        t.rtc.phase = .rest ∧
        t.pins = { s.pins with rce := false, rclk := false, rio := .input } ∧ t.ctl = s.ctl ∧
        t.trace.rioLog = s.trace.rioLog ++ (List.range 8).map b.getLsbD ∧
        t.trace.history = s.trace.history ++
          [.memWrite ([s.cfg.cmdWrSeconds, s.cfg.cmdWrMinutes, s.cfg.cmdWrHours, s.cfg.cmdWrDay, s.cfg.cmdWrMonth,
            s.cfg.cmdWrWeekday, s.cfg.cmdWrYear].getD j.val 0) b]) ∧
    (s.rtc.seq = .wPair 0 →
      ∃ t, exec .wpOff s = .next t ∧ t.rtc.seq = .wPair 1 ∧ t.rtc.phase = .rest ∧
        t.pins = { s.pins with rce := false, rclk := false, rio := .input } ∧ t.ctl = s.ctl ∧
        t.trace.rioLog = s.trace.rioLog ++ (List.range 8).map s.cfg.wpOff.getLsbD ∧
        t.trace.history = s.trace.history ++ [.memWrite s.cfg.cmdWrControl s.cfg.wpOff]) ∧
    (s.rtc.seq = .wPair 8 → s.ctl.lock = .held .rtc →
      ∃ t, exec .wpOn s = .next t ∧ t.rtc.seq = .idle ∧ t.rtc.phase = .rest ∧ t.rtc.cerr = .ok ∧
        t.pins = { s.pins with rce := false, rclk := false, rio := .input } ∧ t.ctl = { s.ctl with lock := .free } ∧
        t.trace.rioLog = s.trace.rioLog ++ (List.range 8).map s.cfg.wpOn.getLsbD ∧
        t.trace.history = s.trace.history ++ [.memWrite s.cfg.cmdWrControl s.cfg.wpOn])

/-- The data codes in a read: at their byte of the burst the device presents them, and they go to that byte of CBUF; after
the eighth the window closes, the transaction joins the history and the lock is freed before the decode (R99, R164, R166,
R170, R174). -/
def Obligations.DataBytesOfARead : Prop :=
  ∀ (s : State) (j : Fin 8) (b : Byte), s.ctl.ctx = .task → s.rtc.seq = .rData j → s.rtc.phase = .data .load →
    s.pins.rio = .input → s.ctl.lock = .held .rtc →
    ∃ t, exec (rdataRow j b) s = .next t ∧
      t.rtc =
        { s.rtc with
          cbuf := s.rtc.cbuf.set j.val b
          shift := b
          bitcnt := 8
          seq := if h : j.val + 1 < 8 then .rData ⟨j.val + 1, h⟩ else .rDecode
          phase := if j.val + 1 < 8 then .data .load else .rest } ∧
      t.env = s.env ∧
      t.trace.rioLog = s.trace.rioLog ++ (List.range 8).map b.getLsbD ∧
      if j.val = 7 then
        t.pins = { s.pins with rce := false, rclk := false } ∧ t.ctl = { s.ctl with lock := .free } ∧
        t.trace.history = s.trace.history ++ [.memRead s.cfg.cmdBurstRead (s.rtc.cbuf.set j.val b)]
      else t.pins = { s.pins with rclk := false } ∧ t.ctl = s.ctl ∧ t.trace.history = s.trace.history

/-- The codes of a clock operation's result end it where their cause holds: OK and RangeError at R_DECODE, OK after the ninth
pair of a write, RangeError at W_CHECK with an operand out of range (R170, R172, R173, R180, R181, R291, R294, R296). -/
def Obligations.ClockResultCodesEndTheOperation : Prop :=
  ∀ s : State, s.ctl.ctx = .task →
    (s.rtc.seq = .rDecode → s.sensor.seq ≠ .check →
      match clockDec s.cfg s.rtc.cbuf with
      | some v =>
        exec .errOK s = .next { s with rtc := { s.rtc with seq := .idle, clock := v, valid := true, cerr := .ok } }
      | none =>
        ∃ t, exec .errRangeError s = .next t ∧
          t.rtc = { s.rtc with seq := .idle, clock := t.rtc.clock, valid := false, cerr := .rangeError } ∧
          t.ctl = s.ctl ∧ t.pins = s.pins ∧ t.trace = s.trace) ∧
    (s.rtc.seq = .wPair 8 → s.rtc.phase = .finish → s.ctl.lock = .held .rtc → s.sensor.seq ≠ .check →
      exec .errOK s =
        .next { s with rtc := { s.rtc with seq := .idle, phase := .rest, cerr := .ok }, ctl.lock := .free }) ∧
    (s.rtc.seq = .wCheck → inRange s.rtc.wbuf = false →
      exec .errRangeError s = .next { s with rtc := { s.rtc with seq := .idle, cerr := .rangeError } })

/-- A code that is met out of its place selects no step: the state stays as it is (the model's choice, log 11). The record
None is in place in no sound state (R254, C9). -/
def Obligations.CodesOutOfPlaceDoNothing : Prop :=
  ∀ s : State, s.ctl.ctx = .task →
    (∀ p : Fin 9, (∀ q, s.rtc.seq = .wPair q → commandRow q ≠ commandRow p ∨ s.rtc.phase ≠ .rest) →
      exec (commandRow p) s = .next s) ∧
    (s.rtc.seq ≠ .rCmd ∨ s.rtc.phase ≠ .rest → exec .cmdBurstRead s = .next s) ∧
    (s.rtc.seq ≠ .wPair 0 ∨ s.rtc.phase ≠ .data .load → exec .wpOff s = .next s) ∧
    (s.rtc.seq ≠ .wPair 8 ∨ s.rtc.phase ≠ .data .load → exec .wpOn s = .next s) ∧
    (∀ (j : Fin 8) (b : Byte),
      s.rtc.phase ≠ .data .load ∨ s.rtc.seq ≠ .rData j ∧
        (∀ p, s.rtc.seq = .wPair p → p.val ≠ j.val + 1 ∨ j.val = 7 ∨ b ≠ pairData s.cfg s.rtc.wbuf p) →
      exec (rdataRow j b) s = .next s) ∧
    (∀ (n : Fin 5) (b : Byte), (∀ i, s.sensor.seq = .bitHi i → i.val ≠ 8 * n.val) →
      exec (sframeRow n b) s = .next s) ∧
    (∀ prev new : RawState, s.quad.rotEn = false ∨ s.quad.prev ≠ prev → exec (transitionRow prev new) s = .next s) ∧
    (wantedLevel s.sensor.seq = none → exec .errTimeout s = .next s) ∧
    (s.sensor.seq ≠ .check ∨ checksumGood s.sensor.frame = true → exec .errChecksumMismatch s = .next s) ∧
    (s.sensor.seq ≠ .check → s.rtc.seq ≠ .rDecode → s.rtc.seq ≠ .wPair 8 ∨ s.rtc.phase ≠ .finish →
      exec .errOK s = .next s) ∧
    (s.rtc.seq ≠ .rDecode → s.rtc.seq ≠ .wCheck → exec .errRangeError s = .next s) ∧
    (∀ q ∈ [(Instr.evNone, PendingEvent.none), (.evRotateCW, .rotateCW), (.evRotateCCW, .rotateCCW),
      (.evButtonDown, .buttonDown), (.evButtonUp, .buttonUp)], s.chan.slot ≠ q.2 → exec q.1 s = .next s) ∧
    (∀ i ∈ [Instr.lrecNone, .lrecRotPlus, .lrecRotMinus, .lrecBtn],
      s.chan.avail = false ∨ (i, s.chan.record) ∉ recordRows → exec i s = .next s) ∧
    (Inv s → exec .lrecNone s = .next s)

/-- Each micro-step of the RTC engine is one primitive on a pin, on TIME or on the lock, with its register writes (R13, R15,
log 18), but for the decode, which is register writes alone. In a byte that goes out (R163) RIO is set to the bit, half a bit
passes, the clock rises, half a bit passes, the clock falls, and so from bit 0 to bit 7; in a read's command RIO is released
after the eighth rising edge (R167; that it is at once is log 36). In a byte that comes in (R164) each bit is sampled after
half a bit, before its rising edge. In a write (R161, R165, R180): the lock, then for each pair the enable rises, half a bit
passes, the two bytes, half a bit, the enable falls and the pair joins the history, RIO is released; after the ninth OK, and
the lock is freed. In a read (R166, R170): the enable rises, half a bit passes, the command, eight bytes each to its place
in CBUF, half a bit, the enable falls and the transaction joins the history, the lock is freed, and the decode. -/
def Obligations.RtcMicroStepIsOnePrimitive : Prop :=
  ∀ s : State,
    let i := s.rtc.bitcnt
    let bit := s.rtc.shift.getLsbD i
    let later := s.time + s.cfg.tHalfbit
    let freed : Lock := if s.ctl.lock = .held .rtc then .free else s.ctl.lock
    (∀ (put : BitPhase → CPhase) (b : Byte) (turn : Bool),
      (turn = false ∧ ∃ p, s.rtc.seq = .wPair p ∧
        (put = .command ∧ b = pairCommand s.cfg p ∨ put = .data ∧ b = pairData s.cfg s.rtc.wbuf p)) ∨
      (turn = true ∧ s.rtc.seq = .rCmd ∧ put = .command ∧ b = s.cfg.cmdBurstRead) →
      (s.rtc.phase = put .load → rtcTick s = { s with rtc.shift := b, rtc.bitcnt := 0, rtc.phase := put .drive }) ∧
      (s.rtc.phase = put .drive → rtcTick s = { s with pins.rio := driveOf bit, rtc.phase := put .low }) ∧
      (s.rtc.phase = put .low → rtcTick s = { s with time := later, rtc.phase := put .rise }) ∧
      (s.rtc.phase = put .rise →
        rtcTick s =
          { s with
            pins.rclk := true
            trace.rioLog := s.trace.rioLog ++ [bit]
            rtc.phase := if turn = true ∧ i = 7 then put .turn else put .high }) ∧
      (turn = true → s.rtc.phase = put .turn → rtcTick s = { s with pins.rio := .input, rtc.phase := put .high }) ∧
      (s.rtc.phase = put .high → rtcTick s = { s with time := later, rtc.phase := put .fall }) ∧
      (s.rtc.phase = put .fall → i < 7 →
        rtcTick s = { s with pins.rclk := false, rtc.bitcnt := i + 1, rtc.phase := put .drive })) ∧
    (∀ p : Fin 9, s.rtc.seq = .wPair p →
      (s.rtc.phase = .rest → rtcTick s = { s with pins.rce := true, rtc.phase := .lead }) ∧
      (s.rtc.phase = .lead → rtcTick s = { s with time := later, rtc.phase := .command .load }) ∧
      (s.rtc.phase = .command .fall → i = 7 →
        rtcTick s = { s with pins.rclk := false, rtc.bitcnt := 8, rtc.phase := .data .load }) ∧
      (s.rtc.phase = .data .fall → i = 7 →
        rtcTick s = { s with pins.rclk := false, rtc.bitcnt := 8, rtc.phase := .trail }) ∧
      (s.rtc.phase = .trail → rtcTick s = { s with time := later, rtc.phase := .close }) ∧
      (s.rtc.phase = .close →
        rtcTick s =
          { s with
            pins.rce := false
            trace.history :=
              s.trace.history ++ [.memWrite (pairCommand s.cfg p) (pairData s.cfg s.rtc.wbuf p)]
            rtc.phase := .settle }) ∧
      (∀ h : p.val + 1 < 9, s.rtc.phase = .settle →
        rtcTick s = { s with pins.rio := .input, rtc.seq := .wPair ⟨p.val + 1, h⟩, rtc.phase := .rest }) ∧
      (p.val = 8 → s.rtc.phase = .settle → rtcTick s = { s with pins.rio := .input, rtc.phase := .finish }) ∧
      (s.rtc.phase = .finish →
        rtcTick s = { s with rtc.cerr := .ok, rtc.seq := .idle, rtc.phase := .rest, ctl.lock := freed })) ∧
    (s.rtc.seq = .rCmd →
      (s.rtc.phase = .rest → rtcTick s = { s with pins.rce := true, rtc.phase := .lead }) ∧
      (s.rtc.phase = .lead → rtcTick s = { s with time := later, rtc.phase := .command .load }) ∧
      (s.rtc.phase = .command .fall → i = 7 →
        rtcTick s =
          { s with pins.rclk := false, rtc.bitcnt := 8, rtc.seq := .rData 0, rtc.phase := .data .load })) ∧
    (∀ j : Fin 8, s.rtc.seq = .rData j →
      (s.rtc.phase = .data .load → rtcTick s = { s with rtc.shift := 0, rtc.bitcnt := 0, rtc.phase := .data .low }) ∧
      (s.rtc.phase = .data .low → rtcTick s = { s with time := later, rtc.phase := .data .sample }) ∧
      (∀ (level : Bool) (rest : List Bool), s.rtc.phase = .data .sample → s.pins.rio = .input → i < 8 →
        (∀ n, i ≤ n → s.rtc.shift.getLsbD n = false) → s.env.rioIn = level :: rest →
        ∃ v : Byte, (∀ n, n < 8 → v.getLsbD n = if n = i then level else s.rtc.shift.getLsbD n) ∧
          rtcTick s =
            { s with
              rtc.shift := v
              env.rioIn := rest
              aux.freeCtr := s.aux.freeCtr + 1
              rtc.phase := .data .rise }) ∧
      (s.rtc.phase = .data .rise →
        rtcTick s =
          { s with pins.rclk := true, trace.rioLog := s.trace.rioLog ++ [bit], rtc.phase := .data .high }) ∧
      (s.rtc.phase = .data .high → rtcTick s = { s with time := later, rtc.phase := .data .fall }) ∧
      (s.rtc.phase = .data .fall → i < 7 →
        rtcTick s = { s with pins.rclk := false, rtc.bitcnt := i + 1, rtc.phase := .data .low }) ∧
      (s.rtc.phase = .data .fall → i = 7 →
        rtcTick s =
          { s with
            pins.rclk := false
            rtc.bitcnt := 8
            rtc.cbuf := s.rtc.cbuf.set j.val s.rtc.shift
            rtc.seq := if h : j.val + 1 < 8 then .rData ⟨j.val + 1, h⟩ else .rData j
            rtc.phase := if j.val + 1 < 8 then .data .load else .trail }) ∧
      (j.val = 7 → s.rtc.phase = .trail → rtcTick s = { s with time := later, rtc.phase := .close }) ∧
      (j.val = 7 → s.rtc.phase = .close →
        rtcTick s =
          { s with
            pins.rce := false
            trace.history := s.trace.history ++ [.memRead s.cfg.cmdBurstRead s.rtc.cbuf]
            rtc.phase := .finish }) ∧
      (j.val = 7 → s.rtc.phase = .finish →
        rtcTick s = { s with ctl.lock := freed, rtc.seq := .rDecode, rtc.phase := .rest })) ∧
    (s.rtc.seq = .wCheck →
      rtcTick s =
        if s.ctl.lock = .free then { s with ctl.lock := .held .rtc, rtc.seq := .wPair 0, rtc.phase := .rest } else s) ∧
    (s.rtc.seq = .rDecode →
      match clockDec s.cfg s.rtc.cbuf with
      | some v => rtcTick s = { s with rtc := { s.rtc with seq := .idle, clock := v, valid := true, cerr := .ok } }
      | none =>
        ∃ c, rtcTick s =
          { s with
            rtc := { s.rtc with seq := .idle, clock := c, valid := false, cerr := .rangeError }
            aux.freeCtr := s.aux.freeCtr + 7 }) ∧
    (s.rtc.seq = .idle → rtcTick s = s)

/-- Edge events served between the micro-steps of an RTC operation, between two bits of a byte and between the two edges of
a clock pulse too, any number at any times, change no byte and no clock edge of it: the engine's registers, its pins, the
levels of RIO, the lock and the transactions of the history end as they would without the edges, and TIME ends later by the
time that the edges took, which stretches the half-bits they fell in (R71, R187). That a micro-step is one primitive on a pin,
on TIME or on the lock is log 18. -/
def Obligations.EdgesDoNotDisturbRtcBytes : Prop :=
  ∀ (sched : List (List (Nat × Edge))) (s : State),
    let busy := rtcAmongEdges sched s
    let alone := rtcAmongEdges (sched.map fun _ => []) s
    busy.rtc = alone.rtc ∧ busy.pins.rce = alone.pins.rce ∧ busy.pins.rclk = alone.pins.rclk ∧
    busy.pins.rio = alone.pins.rio ∧ busy.trace.rioLog = alone.trace.rioLog ∧ busy.ctl.lock = alone.ctl.lock ∧
    busy.time = alone.time + (sched.map edgeTime).sum ∧
    busy.trace.history.filter (fun e => match e with | .push _ => false | _ => true) =
      alone.trace.history.filter (fun e => match e with | .push _ => false | _ => true)

/-! ### The quadrature decoder -/

/-- Which encoder edges are accepted. While the rotary source is disabled an edge is lost (R202, R305). While it is enabled
and not masked, the glitch filter (R203): an interrupt strictly inside the window of the last accepted one writes nothing;
every other is accepted, records its time and its raw state (R204). The pin levels follow the operands (log 22). -/
def Obligations.EnableAndGlitchWindowDecideAcceptance : Prop :=
  (∀ (s : State) (a b : Bool), s.quad.rotEn = false →
    exec (.encEdge a b) s = .next { s with pins.encA := a, pins.encB := b }) ∧
  ∀ (s : State) (a b : Bool), s.quad.rotEn = true → s.ctl.mask = false →
    (∀ t0, s.quad.last = some t0 → s.time - t0 < s.cfg.tGlitch →
      exec (.encEdge a b) s = .next { s with pins.encA := a, pins.encB := b }) ∧
    ((∀ t0, s.quad.last = some t0 → s.cfg.tGlitch ≤ s.time - t0) →
      ∃ t, exec (.encEdge a b) s = .next t ∧ t.quad.last = some s.time ∧
        t.quad.prev = BitVec.ofNat 2 (2 * a.toNat + b.toNat) ∧ t.quad.rotEn = true)

/-- The entries of QTABLE (R110) and their properties (R111). -/
def Obligations.TransitionTableProperties : Prop :=
  (List.range 16).map (fun i => transitionStep false (BitVec.ofNat 2 (i / 4)) (BitVec.ofNat 2 i)) =
    [0, -1, 1, 0, 1, 0, 0, -1, -1, 0, 0, 1, 0, 1, -1, 0] ∧
  ∀ swap : Bool,
    (∀ p n : RawState, transitionStep true p n = -transitionStep false p n) ∧
    (∀ p n : RawState, transitionStep swap p n = -transitionStep swap n p) ∧
    (∀ p n : RawState, transitionStep swap p n ≠ 0 ↔ (p ^^^ n = 1 ∨ p ^^^ n = 2)) ∧
    ((List.range 16).filter (fun i => transitionStep swap (BitVec.ofNat 2 (i / 4)) (BitVec.ofNat 2 i) = 1)).length = 4 ∧
    ((List.range 16).filter (fun i => transitionStep swap (BitVec.ofNat 2 (i / 4)) (BitVec.ofNat 2 i) = -1)).length = 4 ∧
    ((List.range 16).filter (fun i => transitionStep swap (BitVec.ofNat 2 (i / 4)) (BitVec.ofNat 2 i) = 0)).length = 8 ∧
    ∀ p0 p1 p2 p3 p4 : RawState, transitionStep swap p0 p1 = 1 → transitionStep swap p1 p2 = 1 →
      transitionStep swap p2 p3 = 1 → transitionStep swap p3 p4 = 1 → p4 = p0

/-- An accepted transition (R205, R206, R207): the raw state and the time are recorded in each case; an invalid one leaves
the count and pushes nothing; a valid one moves the count by its step; reaching a threshold pushes one event and clears the
count. Each clause gives the whole state but the levels of the two input pins (log 22). -/
def Obligations.TransitionsCountAndEmit : Prop :=
  ∀ (s : State) (a b : Bool), Accepts s → 1 ≤ s.cfg.nDetent →
    let new : RawState := BitVec.ofNat 2 (2 * a.toNat + b.toNat)
    let d := transitionStep s.cfg.dirSwap s.quad.prev new
    ∃ t, exec (.encEdge a b) s = .next t ∧
      (d = 0 →
        { t with pins.encA := s.pins.encA, pins.encB := s.pins.encB } =
          { s with quad := { s.quad with last := some s.time, prev := new } }) ∧
      (d ≠ 0 → -(s.cfg.nDetent : Int) < s.quad.acc + d → s.quad.acc + d < s.cfg.nDetent →
        { t with pins.encA := s.pins.encA, pins.encB := s.pins.encB } =
          { s with quad := { s.quad with last := some s.time, prev := new, acc := s.quad.acc + d } }) ∧
      (d ≠ 0 → s.cfg.nDetent ≤ s.quad.acc + d →
        { t with pins.encA := s.pins.encA, pins.encB := s.pins.encB } =
          { s with
            quad := { s.quad with last := some s.time, prev := new, acc := 0 }
            chan := { slot := .rotateCW, record := ⟨.rot, false⟩, avail := true }
            trace.history := s.trace.history ++ [.push .rotateCW] }) ∧
      (d ≠ 0 → s.quad.acc + d ≤ -(s.cfg.nDetent : Int) →
        { t with pins.encA := s.pins.encA, pins.encB := s.pins.encB } =
          { s with
            quad := { s.quad with last := some s.time, prev := new, acc := 0 }
            chan := { slot := .rotateCCW, record := ⟨.rot, true⟩, avail := true }
            trace.history := s.trace.history ++ [.push .rotateCCW] })

/-- The sixteen table codes, with the raw state they name as the previous one: the time and the new raw state are recorded;
entry 0 changes nothing else; any other moves the count by its entry of R110, negated with `DIR_SWAP`, and a count that
reaches a threshold pushes one event and is cleared (R109, R110, R205, R206, R207; that a code selects the edge event of its
entry is log 11, the pin levels log 22). -/
def Obligations.TableCodesCountTheirEntry : Prop :=
  ∀ (s : State) (prev new : RawState), Accepts s → 1 ≤ s.cfg.nDetent → s.quad.prev = prev →
    let e : Int := [0, -1, 1, 0, 1, 0, 0, -1, -1, 0, 0, 1, 0, 1, -1, 0].getD (4 * prev.toNat + new.toNat) 0
    let d := if s.cfg.dirSwap then -e else e
    let moved : State :=
      { s with
        quad := { s.quad with last := some s.time, prev := new }
        pins.encA := new.getLsbD 1
        pins.encB := new.getLsbD 0 }
    (d = 0 → exec (transitionRow prev new) s = .next moved) ∧
    (d ≠ 0 → -(s.cfg.nDetent : Int) < s.quad.acc + d → s.quad.acc + d < s.cfg.nDetent →
      exec (transitionRow prev new) s = .next { moved with quad.acc := s.quad.acc + d }) ∧
    (d ≠ 0 → s.cfg.nDetent ≤ s.quad.acc + d →
      exec (transitionRow prev new) s =
        .next { moved with
          quad.acc := 0
          chan := { slot := .rotateCW, record := ⟨.rot, false⟩, avail := true }
          trace.history := s.trace.history ++ [.push .rotateCW] }) ∧
    (d ≠ 0 → s.quad.acc + d ≤ -(s.cfg.nDetent : Int) →
      exec (transitionRow prev new) s =
        .next { moved with
          quad.acc := 0
          chan := { slot := .rotateCCW, record := ⟨.rot, true⟩, avail := true }
          trace.history := s.trace.history ++ [.push .rotateCCW] })

/-- ROT_ENABLE (R210, R211, R332), enabled before or not: count cleared, raw state from the pins, no time recorded,
enabled. Encoder edges held from before are dropped (R305, log 14); the pin levels follow the operands (log 22). -/
def Obligations.RotEnableResetsDecoder : Prop :=
  ∀ (s : State) (a b : Bool), s.ctl.ctx = .task →
    exec (.rotEnable a b) s =
      .next { s with
        quad := { prev := BitVec.ofNat 2 (2 * a.toNat + b.toNat), acc := 0, last := none, rotEn := true }
        ctl.pend.encA := false
        ctl.pend.encB := false
        pins.encA := a
        pins.encB := b }

/-- ROT_DISABLE (R212): the enable is cleared and nothing else is written; issued while disabled it changes nothing. -/
def Obligations.RotDisableClearsEnableOnly : Prop :=
  ∀ s : State, s.ctl.ctx = .task →
    exec .rotDisable s = .next { s with quad.rotEn := false } ∧
    (s.quad.rotEn = false → exec .rotDisable s = .next s)

/-- Turning one way, up or down the cycle 00, 10, 11, 01 (R206, R207, R208): from a count of zero, each of the first
N_DETENT - 1 valid transitions moves the count by one, all in one sign, and pushes nothing; the N_DETENT-th pushes exactly
one event of that direction and clears the count. Up is clockwise and +1, unless `DIR_SWAP` exchanges the directions. -/
def Obligations.FullDetentEmitsOneEvent : Prop :=
  ∀ (s : State) (up : Bool) (d k : Nat), s.quad.rotEn = true → s.ctl.mask = false → s.quad.acc = 0 →
    (∀ t0, s.quad.last = some t0 → t0 ≤ s.time) → s.cfg.tGlitch ≤ d → 1 ≤ k → k ≤ s.cfg.nDetent →
    let t := turn up d k s
    if k < s.cfg.nDetent then
      t.quad.acc = (if up = s.cfg.dirSwap then -(k : Int) else (k : Int)) ∧ t.chan = s.chan ∧ t.trace = s.trace
    else
      t.quad.acc = 0 ∧ t.chan.avail = true ∧
      if up = s.cfg.dirSwap then
        t.chan.slot = .rotateCCW ∧ t.chan.record = ⟨.rot, true⟩ ∧
        t.trace.history = s.trace.history ++ [.push .rotateCCW]
      else
        t.chan.slot = .rotateCW ∧ t.chan.record = ⟨.rot, false⟩ ∧
        t.trace.history = s.trace.history ++ [.push .rotateCW]

/-- While interrupts are masked the sensor engine alone steps (R134, R308): whatever the script holds, no step changes the
decoder, the latch, the event channel or the RTC engine, its pins or the callers that wait, and only a sensor transfer joins
the history. Masked edges (R304, R237): no handler step; for each source that had an edge one bit remembers it if the environment
keeps that source's edges, and a bit that is held stays held. Served after the mask clears, it is one edge event with the
present TIME and the present levels, and it is served once. The pin levels follow the operands (log 22). An encoder edge
counts for each line whose level moved, and for ENC_A where none did (log 14). -/
def Obligations.MaskedUnitsStayAndHeldEdgesAreServedOnce : Prop :=
  (∀ s t : State, s.ctl.mask = true → step s = .next t →
    t.quad = s.quad ∧ t.button = s.button ∧ t.chan = s.chan ∧ t.rtc = s.rtc ∧ t.pins.rce = s.pins.rce ∧
    t.pins.rclk = s.pins.rclk ∧ t.pins.rio = s.pins.rio ∧ t.trace.rioLog = s.trace.rioLog ∧
    t.ctl.waiting = s.ctl.waiting ∧ t.ctl.readers = s.ctl.readers ∧
    ∃ h, t.trace.history = s.trace.history ++ h ∧
      ∀ e ∈ h, (∃ f, e = .sensorFrame f) ∨ ∃ k, e = .sensorTimeout k) ∧
  (∀ (s : State) (a b : Bool), s.ctl.mask = true → s.quad.rotEn = true →
    let edgeA := a ≠ s.pins.encA ∨ b = s.pins.encB
    let edgeB := b ≠ s.pins.encB
    ∃ pend, exec (.encEdge a b) s = .next { s with ctl.pend := pend, pins.encA := a, pins.encB := b } ∧
      (pend.encA = true ↔ s.ctl.pend.encA = true ∨ edgeA ∧ s.env.keep.encA = true) ∧
      (pend.encB = true ↔ s.ctl.pend.encB = true ∨ edgeB ∧ s.env.keep.encB = true) ∧
      pend.btn = s.ctl.pend.btn) ∧
  (∀ (s : State) (l : Bool), s.ctl.mask = true →
    exec (.btnEdge l) s =
      .next { s with ctl.pend.btn := s.ctl.pend.btn || s.env.keep.btn, pins.btn := l }) ∧
  (∀ (s : State) (src : Source), s.ctl.mask = true → runPick (.late src) s = s) ∧
  (∀ (s : State) (src : Source), s.ctl.mask = false → s.ctl.pend.get src = true →
    Host.Outcome.next (runPick (.late src) s) =
      exec (match src with | .btn => .btnEdge s.pins.btn | _ => .encEdge s.pins.encA s.pins.encB)
        { s with ctl.pend := s.ctl.pend.clear src } ∧
    (runPick (.late src) s).ctl.pend.get src = false ∧
    runPick (.late src) (runPick (.late src) s) = runPick (.late src) s)

/-! ### The button -/

/-- A release-level event (R232): a set latch is cleared at once, whatever the time, and ButtonUp pushed; a clear latch
stays and nothing is pushed. `B_LAST` is not written. Each clause gives the whole state but the level of the input pin
(log 22). -/
def Obligations.ReleaseIsImmediate : Prop :=
  ∀ (s : State) (l : Bool), s.ctl.mask = false → l ≠ s.cfg.btnActive →
    ∃ t, exec (.btnEdge l) s = .next t ∧
      (s.button.latch = false → { t with pins.btn := s.pins.btn } = s) ∧
      (s.button.latch = true →
        { t with pins.btn := s.pins.btn } =
          { s with
            button.latch := false
            chan :=
              if s.cfg.lastevOnUp then { slot := .buttonUp, record := ⟨.btn, false⟩, avail := true }
              else { s.chan with slot := .buttonUp }
            trace.history := s.trace.history ++ [.push .buttonUp] })

/-- A press-level event (R233, R234): ignored strictly inside the window of the last accepted press, and outside it when
already latched, with nothing written and nothing pushed; else the latch is set, the time recorded and ButtonDown pushed.
Each clause gives the whole state but the level of the input pin (log 22). -/
def Obligations.PressIsDebounced : Prop :=
  ∀ (s : State) (l : Bool), s.ctl.mask = false → l = s.cfg.btnActive →
    ∃ t, exec (.btnEdge l) s = .next t ∧
      (∀ t0, s.button.last = some t0 → s.time - t0 < s.cfg.tDebounce → { t with pins.btn := s.pins.btn } = s) ∧
      (s.button.latch = true → { t with pins.btn := s.pins.btn } = s) ∧
      ((∀ t0, s.button.last = some t0 → s.cfg.tDebounce ≤ s.time - t0) → s.button.latch = false →
        { t with pins.btn := s.pins.btn } =
          { s with
            button := { latch := true, last := some s.time }
            chan := { slot := .buttonDown, record := ⟨.btn, false⟩, avail := true }
            trace.history := s.trace.history ++ [.push .buttonDown] })

/-- Over any button edges at any times, the events pushed are ButtonDown and ButtonUp in strict alternation, beginning with
the one the latch calls for, and the latch is set exactly when the last was ButtonDown (R235, R236). -/
def Obligations.ButtonEventsAlternate : Prop :=
  ∀ (edges : List (Nat × Bool)) (s : State), s.ctl.mask = false →
    ∃ pushed : List Event,
      (serveButtons edges s).trace.history = s.trace.history ++ pushed ∧
      (if s.button.latch then alternates (.push .buttonUp) (.push .buttonDown) pushed
        else alternates (.push .buttonDown) (.push .buttonUp) pushed) = true ∧
      ((serveButtons edges s).button.latch = true ↔
        (if pushed.length % 2 = 0 then s.button.latch = true else s.button.latch = false))

/-! ### The event channel -/

/-- EV_PUSH (R251, R253): the slot is overwritten whatever it held; the record and its signal too, but for a ButtonUp when
`LASTEV_ON_BUTTON_UP` is false. -/
def Obligations.PushOverwritesSlotAndRecord : Prop :=
  ∀ s : State,
    exec (.evPush .rotateCW) s =
      .next { s with
        chan := { slot := .rotateCW, record := ⟨.rot, false⟩, avail := true }
        trace.history := s.trace.history ++ [.push .rotateCW] } ∧
    exec (.evPush .rotateCCW) s =
      .next { s with
        chan := { slot := .rotateCCW, record := ⟨.rot, true⟩, avail := true }
        trace.history := s.trace.history ++ [.push .rotateCCW] } ∧
    exec (.evPush .buttonDown) s =
      .next { s with
        chan := { slot := .buttonDown, record := ⟨.btn, false⟩, avail := true }
        trace.history := s.trace.history ++ [.push .buttonDown] } ∧
    exec (.evPush .buttonUp) s =
      .next { s with
        chan :=
          if s.cfg.lastevOnUp then { slot := .buttonUp, record := ⟨.btn, false⟩, avail := true }
          else { s.chan with slot := .buttonUp }
        trace.history := s.trace.history ++ [.push .buttonUp] }

/-- EV_POP (R252): the slot is read and emptied in one step, its content is the result (R79), the record is untouched; a
second pop returns None. -/
def Obligations.PopReadsAndEmptiesSlot : Prop :=
  ∀ s : State, s.ctl.ctx = .task →
    exec .evPop s =
      .next { s with chan.slot := .none, trace.history := s.trace.history ++ [.pop s.chan.slot] } ∧
    exec .evPop { s with chan.slot := .none } =
      .next { s with chan.slot := .none, trace.history := s.trace.history ++ [.pop .none] }

/-- EV_WAIT_READ (R254): with the signal set the record is read and reset in one step and is the result (R79), the slot
untouched; without it the caller blocks; a blocked caller takes the record when the signal is set, but not in the sensor's
critical section (R308). -/
def Obligations.WaitReadTakesRecordOrBlocks : Prop :=
  ∀ s : State, s.ctl.ctx = .task →
    (s.chan.avail = true →
      exec .evWaitRead s =
        .next { s with
          chan.record := ⟨.none, false⟩
          chan.avail := false
          trace.history := s.trace.history ++ [.waitRead s.chan.record] }) ∧
    (s.chan.avail = false → exec .evWaitRead s = .next { s with ctl.readers := s.ctl.readers + 1 }) ∧
    (s.chan.avail = false → runPick .reader s = s) ∧
    (s.ctl.mask = true → runPick .reader s = s) ∧
    (s.ctl.mask = false → s.chan.avail = true → 0 < s.ctl.readers →
      runPick .reader s =
        { s with
          ctl.readers := s.ctl.readers - 1
          chan.record := ⟨.none, false⟩
          chan.avail := false
          trace.history := s.trace.history ++ [.waitRead s.chan.record] })

/-- The event and record codes are results (R112, R113): where the slot holds its event, an event code is the EV_POP that
returns it; where there is that record to read, a record code is the EV_WAIT_READ that returns it (R252, R254). The numbers
of the events are those of R112. That a code given as an instruction stands for the operation with that result is log 11. -/
def Obligations.EventCodesAreResults : Prop :=
  ∀ s : State, s.ctl.ctx = .task →
    (∀ q ∈ [(Instr.evNone, PendingEvent.none), (.evRotateCW, .rotateCW), (.evRotateCCW, .rotateCCW),
      (.evButtonDown, .buttonDown), (.evButtonUp, .buttonUp)], s.chan.slot = q.2 →
      exec q.1 s = .next { s with chan.slot := .none, trace.history := s.trace.history ++ [.pop q.2] } ∧
      exec q.1 s = exec .evPop s) ∧
    (∀ q ∈ recordRows,
      s.chan.avail = true → s.chan.record = q.2 →
      exec q.1 s =
        .next { s with
          chan.record := ⟨.none, false⟩
          chan.avail := false
          trace.history := s.trace.history ++ [.waitRead q.2] } ∧
      exec q.1 s = exec .evWaitRead s) ∧
    [PendingEvent.none, .rotateCW, .rotateCCW, .buttonDown, .buttonUp].map PendingEvent.code = [0, 1, 2, 3, 4]

/-- The two paths are independent (R257): after one push and one EV_POP, EV_WAIT_READ still returns the event; after one
push and one EV_WAIT_READ, EV_POP still returns it. -/
def Obligations.PollAndWaitPathsAreIndependent : Prop :=
  ∀ (s s1 : State) (e : PushEvent) (r : Record), s.ctl.ctx = .task → recordOf s.cfg.lastevOnUp e = some r →
    exec (.evPush e) s = .next s1 →
    (∃ s2 s3, exec .evPop s1 = .next s2 ∧ exec .evWaitRead s2 = .next s3 ∧
      s3.trace.history = s.trace.history ++ [.push e, .pop (slotOf e), .waitRead r]) ∧
    (∃ s2 s3, exec .evWaitRead s1 = .next s2 ∧ exec .evPop s2 = .next s3 ∧
      s3.trace.history = s.trace.history ++ [.push e, .waitRead r, .pop (slotOf e)])

/-- No step of a sound state lets an EV_WAIT_READ return the record None (R254, conflict C9). -/
def Obligations.WaitReadNeverReturnsNone : Prop :=
  ∀ (s t : State) (h : List Event) (r : Record), Inv s → step s = .next t →
    t.trace.history = s.trace.history ++ h → .waitRead r ∈ h → r.kind ≠ .none

/-! ### Issued and run operations agree -/

/-- A READ_SENSOR, READ_CLOCK or WRITE_CLOCK whose micro-steps are taken one a step, with nothing placed in the script, comes
to the state that running it to its end gives, in which its engine is idle again (log 8). A pick of the sensor engine may
ask for the TIME at which WAKE or RELEASE ends (log 17): WAKE lasts at least `T_WAKE_US` (R132) and RELEASE at most
`T_REL_US` (R133) whatever is asked, every end within these bounds that is asked for is taken, a line with a later TIME does
not hold RELEASE up (log 16), and READ_SENSOR ends as the transfer function says of the waveform (R139). `aux.sClock` is the
TIME at which the position began. -/
def Obligations.IssuedOperationsAgreeAndKeepBounds : Prop :=
  (∀ s : State, s.env.script = [] → s.sensor.seq = .idle →
    (∃ n, n ≤ sensorTicks ∧
      Host.Core.run Sys2Proof.core n (startSensor s) = .next (runSensor sensorTicks (startSensor s)) ∧
      (runSensor sensorTicks (startSensor s)).sensor.seq = .idle) ∧
    (s.ctl.mask = false → ∃ n, n ≤ readTicks ∧
      Host.Core.run Sys2Proof.core n (startRead s) = .next (runRtc readTicks (startRead s)) ∧
      (runRtc readTicks (startRead s)).rtc.seq = .idle) ∧
    (∀ v, s.ctl.mask = false → s.ctl.lock = .free → inRange v = true → ∃ n, n ≤ writeTicks ∧
      Host.Core.run Sys2Proof.core n (startWrite v s) = .next (runRtc writeTicks (startWrite v s)) ∧
      (runRtc writeTicks (startWrite v s)).rtc.seq = .idle ∧ (runRtc writeTicks (startWrite v s)).rtc.cerr = .ok)) ∧
  (∀ (s : State) (want : Option Nat) (items : List Item), s.env.script = .pick (.sensor want) :: items →
    (s.sensor.seq = .wake → ∃ e, s.time ≤ e ∧ s.aux.sClock + s.cfg.tWake ≤ e ∧
      (∀ t, want = some t → s.time ≤ t → s.aux.sClock + s.cfg.tWake ≤ t → e = t) ∧
      step s = .next
        { s with
          env.script := items
          time := e
          aux.sClock := e
          pins.sdata := .drive1
          sensor.seq := .release }) ∧
    (s.sensor.seq = .release → s.time ≤ s.aux.sClock + s.cfg.tRel →
      ∃ e, s.time ≤ e ∧ e ≤ s.aux.sClock + s.cfg.tRel ∧
      (∀ t, want = some t → s.time ≤ t → t ≤ s.aux.sClock + s.cfg.tRel → e = t) ∧
      step s = .next
        { s with
          env.script := items
          time := e
          aux.sClock := e
          aux.sHs1 := e
          pins.sdata := .input
          ctl.mask := true
          sensor.seq := .hs1 })) ∧
  (∀ (s : State) (l : Line) (items : List Item) (i : Instr) (rest : List Byte) (t : Nat),
    let e := s.aux.sClock + s.cfg.tRel
    s.env.script = .line l :: items → decode s.cfg l.fmt l.bytes = .ok (i, rest) → l.time = some t →
    s.sensor.seq = .release → s.time ≤ e → e < t →
    step s = .next
      { s with
        time := e
        aux.sClock := e
        aux.sHs1 := e
        pins.sdata := .input
        ctl.mask := true
        sensor.seq := .hs1 }) ∧
  ∀ (s : State) (wake release : Option Nat) (w : List (Bool × Nat)), s.env.script = [] → s.ctl.lock = .free →
    s.sensor.seq = .idle → sensorAnswer s = .wave w →
    ∃ n t, n ≤ sensorTicks ∧
      Host.Core.run Sys2Proof.core n
        { startSensor s with env.script := [.pick (.sensor wake), .pick (.sensor release)] } = .next t ∧
      SensorEnds s t (transfer s.cfg w)
end

