-- ==== Sys2Proof/Laws/State.lean ====
section
/-! SUPPORT. What each named update of the state does to each field: true by definition, so that no later proof unfolds a
record update. -/

namespace Sys2Proof.Machine

variable (s : State)

/-! ### delay -/

@[simp] theorem delay_sensor (n : Nat) : (delay n s).sensor = s.sensor := rfl
@[simp] theorem delay_rtc (n : Nat) : (delay n s).rtc = s.rtc := rfl
@[simp] theorem delay_quad (n : Nat) : (delay n s).quad = s.quad := rfl
@[simp] theorem delay_button (n : Nat) : (delay n s).button = s.button := rfl
@[simp] theorem delay_chan (n : Nat) : (delay n s).chan = s.chan := rfl
@[simp] theorem delay_ctl (n : Nat) : (delay n s).ctl = s.ctl := rfl
@[simp] theorem delay_pins (n : Nat) : (delay n s).pins = s.pins := rfl
@[simp] theorem delay_time (n : Nat) : (delay n s).time = s.time + n := rfl
@[simp] theorem delay_env (n : Nat) : (delay n s).env = s.env := rfl
@[simp] theorem delay_aux (n : Nat) : (delay n s).aux = s.aux := rfl
@[simp] theorem delay_trace (n : Nat) : (delay n s).trace = s.trace := rfl
@[simp] theorem delay_cfg (n : Nat) : (delay n s).cfg = s.cfg := rfl

/-! ### timeTo -/

@[simp] theorem timeTo_sensor (t : Nat) : (timeTo t s).sensor = s.sensor := rfl
@[simp] theorem timeTo_rtc (t : Nat) : (timeTo t s).rtc = s.rtc := rfl
@[simp] theorem timeTo_quad (t : Nat) : (timeTo t s).quad = s.quad := rfl
@[simp] theorem timeTo_button (t : Nat) : (timeTo t s).button = s.button := rfl
@[simp] theorem timeTo_chan (t : Nat) : (timeTo t s).chan = s.chan := rfl
@[simp] theorem timeTo_ctl (t : Nat) : (timeTo t s).ctl = s.ctl := rfl
@[simp] theorem timeTo_pins (t : Nat) : (timeTo t s).pins = s.pins := rfl
@[simp] theorem timeTo_time (t : Nat) : (timeTo t s).time = max s.time t := rfl
@[simp] theorem timeTo_env (t : Nat) : (timeTo t s).env = s.env := rfl
@[simp] theorem timeTo_aux (t : Nat) : (timeTo t s).aux = s.aux := rfl
@[simp] theorem timeTo_trace (t : Nat) : (timeTo t s).trace = s.trace := rfl
@[simp] theorem timeTo_cfg (t : Nat) : (timeTo t s).cfg = s.cfg := rfl

/-! ### driveSdata -/

@[simp] theorem driveSdata_sensor (d : Drive) : (driveSdata d s).sensor = s.sensor := rfl
@[simp] theorem driveSdata_rtc (d : Drive) : (driveSdata d s).rtc = s.rtc := rfl
@[simp] theorem driveSdata_quad (d : Drive) : (driveSdata d s).quad = s.quad := rfl
@[simp] theorem driveSdata_button (d : Drive) : (driveSdata d s).button = s.button := rfl
@[simp] theorem driveSdata_chan (d : Drive) : (driveSdata d s).chan = s.chan := rfl
@[simp] theorem driveSdata_ctl (d : Drive) : (driveSdata d s).ctl = s.ctl := rfl
@[simp] theorem driveSdata_pins (d : Drive) : (driveSdata d s).pins = { s.pins with sdata := d } := rfl
@[simp] theorem driveSdata_time (d : Drive) : (driveSdata d s).time = s.time := rfl
@[simp] theorem driveSdata_env (d : Drive) : (driveSdata d s).env = s.env := rfl
@[simp] theorem driveSdata_aux (d : Drive) : (driveSdata d s).aux = s.aux := rfl
@[simp] theorem driveSdata_trace (d : Drive) : (driveSdata d s).trace = s.trace := rfl
@[simp] theorem driveSdata_cfg (d : Drive) : (driveSdata d s).cfg = s.cfg := rfl

/-! ### driveRio -/

@[simp] theorem driveRio_sensor (d : Drive) : (driveRio d s).sensor = s.sensor := rfl
@[simp] theorem driveRio_rtc (d : Drive) : (driveRio d s).rtc = s.rtc := rfl
@[simp] theorem driveRio_quad (d : Drive) : (driveRio d s).quad = s.quad := rfl
@[simp] theorem driveRio_button (d : Drive) : (driveRio d s).button = s.button := rfl
@[simp] theorem driveRio_chan (d : Drive) : (driveRio d s).chan = s.chan := rfl
@[simp] theorem driveRio_ctl (d : Drive) : (driveRio d s).ctl = s.ctl := rfl
@[simp] theorem driveRio_pins (d : Drive) : (driveRio d s).pins = { s.pins with rio := d } := rfl
@[simp] theorem driveRio_time (d : Drive) : (driveRio d s).time = s.time := rfl
@[simp] theorem driveRio_env (d : Drive) : (driveRio d s).env = s.env := rfl
@[simp] theorem driveRio_aux (d : Drive) : (driveRio d s).aux = s.aux := rfl
@[simp] theorem driveRio_trace (d : Drive) : (driveRio d s).trace = s.trace := rfl
@[simp] theorem driveRio_cfg (d : Drive) : (driveRio d s).cfg = s.cfg := rfl

/-! ### setRce -/

@[simp] theorem setRce_sensor (v : Bool) : (setRce v s).sensor = s.sensor := rfl
@[simp] theorem setRce_rtc (v : Bool) : (setRce v s).rtc = s.rtc := rfl
@[simp] theorem setRce_quad (v : Bool) : (setRce v s).quad = s.quad := rfl
@[simp] theorem setRce_button (v : Bool) : (setRce v s).button = s.button := rfl
@[simp] theorem setRce_chan (v : Bool) : (setRce v s).chan = s.chan := rfl
@[simp] theorem setRce_ctl (v : Bool) : (setRce v s).ctl = s.ctl := rfl
@[simp] theorem setRce_pins (v : Bool) : (setRce v s).pins = { s.pins with rce := v } := rfl
@[simp] theorem setRce_time (v : Bool) : (setRce v s).time = s.time := rfl
@[simp] theorem setRce_env (v : Bool) : (setRce v s).env = s.env := rfl
@[simp] theorem setRce_aux (v : Bool) : (setRce v s).aux = s.aux := rfl
@[simp] theorem setRce_trace (v : Bool) : (setRce v s).trace = s.trace := rfl
@[simp] theorem setRce_cfg (v : Bool) : (setRce v s).cfg = s.cfg := rfl

/-! ### recordEvent -/

@[simp] theorem recordEvent_sensor (e : Event) : (recordEvent e s).sensor = s.sensor := rfl
@[simp] theorem recordEvent_rtc (e : Event) : (recordEvent e s).rtc = s.rtc := rfl
@[simp] theorem recordEvent_quad (e : Event) : (recordEvent e s).quad = s.quad := rfl
@[simp] theorem recordEvent_button (e : Event) : (recordEvent e s).button = s.button := rfl
@[simp] theorem recordEvent_chan (e : Event) : (recordEvent e s).chan = s.chan := rfl
@[simp] theorem recordEvent_ctl (e : Event) : (recordEvent e s).ctl = s.ctl := rfl
@[simp] theorem recordEvent_pins (e : Event) : (recordEvent e s).pins = s.pins := rfl
@[simp] theorem recordEvent_time (e : Event) : (recordEvent e s).time = s.time := rfl
@[simp] theorem recordEvent_env (e : Event) : (recordEvent e s).env = s.env := rfl
@[simp] theorem recordEvent_aux (e : Event) : (recordEvent e s).aux = s.aux := rfl
@[simp] theorem recordEvent_trace (e : Event) :
    (recordEvent e s).trace = { s.trace with history := s.trace.history ++ [e] } := rfl
@[simp] theorem recordEvent_cfg (e : Event) : (recordEvent e s).cfg = s.cfg := rfl

/-! ### clockRise -/

@[simp] theorem clockRise_sensor (l : Bool) : (clockRise l s).sensor = s.sensor := rfl
@[simp] theorem clockRise_rtc (l : Bool) : (clockRise l s).rtc = s.rtc := rfl
@[simp] theorem clockRise_quad (l : Bool) : (clockRise l s).quad = s.quad := rfl
@[simp] theorem clockRise_button (l : Bool) : (clockRise l s).button = s.button := rfl
@[simp] theorem clockRise_chan (l : Bool) : (clockRise l s).chan = s.chan := rfl
@[simp] theorem clockRise_ctl (l : Bool) : (clockRise l s).ctl = s.ctl := rfl
@[simp] theorem clockRise_pins (l : Bool) : (clockRise l s).pins = { s.pins with rclk := true } := rfl
@[simp] theorem clockRise_time (l : Bool) : (clockRise l s).time = s.time := rfl
@[simp] theorem clockRise_env (l : Bool) : (clockRise l s).env = s.env := rfl
@[simp] theorem clockRise_aux (l : Bool) : (clockRise l s).aux = s.aux := rfl
@[simp] theorem clockRise_trace (l : Bool) :
    (clockRise l s).trace = { s.trace with rioLog := s.trace.rioLog ++ [l] } := rfl
@[simp] theorem clockRise_cfg (l : Bool) : (clockRise l s).cfg = s.cfg := rfl

/-! ### clockFall -/

@[simp] theorem clockFall_sensor : (clockFall s).sensor = s.sensor := rfl
@[simp] theorem clockFall_rtc : (clockFall s).rtc = s.rtc := rfl
@[simp] theorem clockFall_quad : (clockFall s).quad = s.quad := rfl
@[simp] theorem clockFall_button : (clockFall s).button = s.button := rfl
@[simp] theorem clockFall_chan : (clockFall s).chan = s.chan := rfl
@[simp] theorem clockFall_ctl : (clockFall s).ctl = s.ctl := rfl
@[simp] theorem clockFall_pins : (clockFall s).pins = { s.pins with rclk := false } := rfl
@[simp] theorem clockFall_time : (clockFall s).time = s.time := rfl
@[simp] theorem clockFall_env : (clockFall s).env = s.env := rfl
@[simp] theorem clockFall_aux : (clockFall s).aux = s.aux := rfl
@[simp] theorem clockFall_trace : (clockFall s).trace = s.trace := rfl
@[simp] theorem clockFall_cfg : (clockFall s).cfg = s.cfg := rfl

/-! ### useFree -/

@[simp] theorem useFree_sensor (n : Nat) : (useFree n s).sensor = s.sensor := rfl
@[simp] theorem useFree_rtc (n : Nat) : (useFree n s).rtc = s.rtc := rfl
@[simp] theorem useFree_quad (n : Nat) : (useFree n s).quad = s.quad := rfl
@[simp] theorem useFree_button (n : Nat) : (useFree n s).button = s.button := rfl
@[simp] theorem useFree_chan (n : Nat) : (useFree n s).chan = s.chan := rfl
@[simp] theorem useFree_ctl (n : Nat) : (useFree n s).ctl = s.ctl := rfl
@[simp] theorem useFree_pins (n : Nat) : (useFree n s).pins = s.pins := rfl
@[simp] theorem useFree_time (n : Nat) : (useFree n s).time = s.time := rfl
@[simp] theorem useFree_env (n : Nat) : (useFree n s).env = s.env := rfl
@[simp] theorem useFree_aux (n : Nat) : (useFree n s).aux = { s.aux with freeCtr := s.aux.freeCtr + n } := rfl
@[simp] theorem useFree_trace (n : Nat) : (useFree n s).trace = s.trace := rfl
@[simp] theorem useFree_cfg (n : Nat) : (useFree n s).cfg = s.cfg := rfl

/-! ### acquire -/

@[simp] theorem acquire_sensor (e : Engine) : (acquire e s).sensor = s.sensor := rfl
@[simp] theorem acquire_rtc (e : Engine) : (acquire e s).rtc = s.rtc := rfl
@[simp] theorem acquire_quad (e : Engine) : (acquire e s).quad = s.quad := rfl
@[simp] theorem acquire_button (e : Engine) : (acquire e s).button = s.button := rfl
@[simp] theorem acquire_chan (e : Engine) : (acquire e s).chan = s.chan := rfl
@[simp] theorem acquire_ctl (e : Engine) : (acquire e s).ctl = { s.ctl with lock := .held e } := rfl
@[simp] theorem acquire_pins (e : Engine) : (acquire e s).pins = s.pins := rfl
@[simp] theorem acquire_time (e : Engine) : (acquire e s).time = s.time := rfl
@[simp] theorem acquire_env (e : Engine) : (acquire e s).env = s.env := rfl
@[simp] theorem acquire_aux (e : Engine) : (acquire e s).aux = s.aux := rfl
@[simp] theorem acquire_trace (e : Engine) : (acquire e s).trace = s.trace := rfl
@[simp] theorem acquire_cfg (e : Engine) : (acquire e s).cfg = s.cfg := rfl

/-! ### enqueue -/

@[simp] theorem enqueue_sensor (r : Request) : (enqueue r s).sensor = s.sensor := rfl
@[simp] theorem enqueue_rtc (r : Request) : (enqueue r s).rtc = s.rtc := rfl
@[simp] theorem enqueue_quad (r : Request) : (enqueue r s).quad = s.quad := rfl
@[simp] theorem enqueue_button (r : Request) : (enqueue r s).button = s.button := rfl
@[simp] theorem enqueue_chan (r : Request) : (enqueue r s).chan = s.chan := rfl
@[simp] theorem enqueue_ctl (r : Request) : (enqueue r s).ctl = { s.ctl with waiting := s.ctl.waiting ++ [r] } := rfl
@[simp] theorem enqueue_pins (r : Request) : (enqueue r s).pins = s.pins := rfl
@[simp] theorem enqueue_time (r : Request) : (enqueue r s).time = s.time := rfl
@[simp] theorem enqueue_env (r : Request) : (enqueue r s).env = s.env := rfl
@[simp] theorem enqueue_aux (r : Request) : (enqueue r s).aux = s.aux := rfl
@[simp] theorem enqueue_trace (r : Request) : (enqueue r s).trace = s.trace := rfl
@[simp] theorem enqueue_cfg (r : Request) : (enqueue r s).cfg = s.cfg := rfl

/-! ### dropAnswer -/

@[simp] theorem dropAnswer_sensor : (dropAnswer s).sensor = s.sensor := rfl
@[simp] theorem dropAnswer_rtc : (dropAnswer s).rtc = s.rtc := rfl
@[simp] theorem dropAnswer_quad : (dropAnswer s).quad = s.quad := rfl
@[simp] theorem dropAnswer_button : (dropAnswer s).button = s.button := rfl
@[simp] theorem dropAnswer_chan : (dropAnswer s).chan = s.chan := rfl
@[simp] theorem dropAnswer_ctl : (dropAnswer s).ctl = s.ctl := rfl
@[simp] theorem dropAnswer_pins : (dropAnswer s).pins = s.pins := rfl
@[simp] theorem dropAnswer_time : (dropAnswer s).time = s.time := rfl
@[simp] theorem dropAnswer_env : (dropAnswer s).env = { s.env with sensorIn := s.env.sensorIn.tail } := rfl
@[simp] theorem dropAnswer_aux : (dropAnswer s).aux = s.aux := rfl
@[simp] theorem dropAnswer_trace : (dropAnswer s).trace = s.trace := rfl
@[simp] theorem dropAnswer_cfg : (dropAnswer s).cfg = s.cfg := rfl

/-! ### sensorTo -/

@[simp] theorem sensorTo_sensor (q : SSeq) : (sensorTo q s).sensor = { s.sensor with seq := q } := rfl
@[simp] theorem sensorTo_rtc (q : SSeq) : (sensorTo q s).rtc = s.rtc := rfl
@[simp] theorem sensorTo_quad (q : SSeq) : (sensorTo q s).quad = s.quad := rfl
@[simp] theorem sensorTo_button (q : SSeq) : (sensorTo q s).button = s.button := rfl
@[simp] theorem sensorTo_chan (q : SSeq) : (sensorTo q s).chan = s.chan := rfl
@[simp] theorem sensorTo_ctl (q : SSeq) : (sensorTo q s).ctl = s.ctl := rfl
@[simp] theorem sensorTo_pins (q : SSeq) : (sensorTo q s).pins = s.pins := rfl
@[simp] theorem sensorTo_time (q : SSeq) : (sensorTo q s).time = s.time := rfl
@[simp] theorem sensorTo_env (q : SSeq) : (sensorTo q s).env = s.env := rfl
@[simp] theorem sensorTo_aux (q : SSeq) : (sensorTo q s).aux = s.aux := rfl
@[simp] theorem sensorTo_trace (q : SSeq) : (sensorTo q s).trace = s.trace := rfl
@[simp] theorem sensorTo_cfg (q : SSeq) : (sensorTo q s).cfg = s.cfg := rfl

/-! ### rtcTo -/

@[simp] theorem rtcTo_sensor (q : CSeq) (ph : CPhase) : (rtcTo q ph s).sensor = s.sensor := rfl
@[simp] theorem rtcTo_rtc (q : CSeq) (ph : CPhase) : (rtcTo q ph s).rtc = { s.rtc with seq := q, phase := ph } := rfl
@[simp] theorem rtcTo_quad (q : CSeq) (ph : CPhase) : (rtcTo q ph s).quad = s.quad := rfl
@[simp] theorem rtcTo_button (q : CSeq) (ph : CPhase) : (rtcTo q ph s).button = s.button := rfl
@[simp] theorem rtcTo_chan (q : CSeq) (ph : CPhase) : (rtcTo q ph s).chan = s.chan := rfl
@[simp] theorem rtcTo_ctl (q : CSeq) (ph : CPhase) : (rtcTo q ph s).ctl = s.ctl := rfl
@[simp] theorem rtcTo_pins (q : CSeq) (ph : CPhase) : (rtcTo q ph s).pins = s.pins := rfl
@[simp] theorem rtcTo_time (q : CSeq) (ph : CPhase) : (rtcTo q ph s).time = s.time := rfl
@[simp] theorem rtcTo_env (q : CSeq) (ph : CPhase) : (rtcTo q ph s).env = s.env := rfl
@[simp] theorem rtcTo_aux (q : CSeq) (ph : CPhase) : (rtcTo q ph s).aux = s.aux := rfl
@[simp] theorem rtcTo_trace (q : CSeq) (ph : CPhase) : (rtcTo q ph s).trace = s.trace := rfl
@[simp] theorem rtcTo_cfg (q : CSeq) (ph : CPhase) : (rtcTo q ph s).cfg = s.cfg := rfl

/-! ### phaseTo -/

@[simp] theorem phaseTo_sensor (ph : CPhase) : (phaseTo ph s).sensor = s.sensor := rfl
@[simp] theorem phaseTo_rtc (ph : CPhase) : (phaseTo ph s).rtc = { s.rtc with phase := ph } := rfl
@[simp] theorem phaseTo_quad (ph : CPhase) : (phaseTo ph s).quad = s.quad := rfl
@[simp] theorem phaseTo_button (ph : CPhase) : (phaseTo ph s).button = s.button := rfl
@[simp] theorem phaseTo_chan (ph : CPhase) : (phaseTo ph s).chan = s.chan := rfl
@[simp] theorem phaseTo_ctl (ph : CPhase) : (phaseTo ph s).ctl = s.ctl := rfl
@[simp] theorem phaseTo_pins (ph : CPhase) : (phaseTo ph s).pins = s.pins := rfl
@[simp] theorem phaseTo_time (ph : CPhase) : (phaseTo ph s).time = s.time := rfl
@[simp] theorem phaseTo_env (ph : CPhase) : (phaseTo ph s).env = s.env := rfl
@[simp] theorem phaseTo_aux (ph : CPhase) : (phaseTo ph s).aux = s.aux := rfl
@[simp] theorem phaseTo_trace (ph : CPhase) : (phaseTo ph s).trace = s.trace := rfl
@[simp] theorem phaseTo_cfg (ph : CPhase) : (phaseTo ph s).cfg = s.cfg := rfl

/-! ### storeByte -/

@[simp] theorem storeByte_sensor (j : Fin 8) : (storeByte j s).sensor = s.sensor := rfl
@[simp] theorem storeByte_rtc (j : Fin 8) :
    (storeByte j s).rtc = { s.rtc with cbuf := s.rtc.cbuf.set j.val s.rtc.shift } := rfl
@[simp] theorem storeByte_quad (j : Fin 8) : (storeByte j s).quad = s.quad := rfl
@[simp] theorem storeByte_button (j : Fin 8) : (storeByte j s).button = s.button := rfl
@[simp] theorem storeByte_chan (j : Fin 8) : (storeByte j s).chan = s.chan := rfl
@[simp] theorem storeByte_ctl (j : Fin 8) : (storeByte j s).ctl = s.ctl := rfl
@[simp] theorem storeByte_pins (j : Fin 8) : (storeByte j s).pins = s.pins := rfl
@[simp] theorem storeByte_time (j : Fin 8) : (storeByte j s).time = s.time := rfl
@[simp] theorem storeByte_env (j : Fin 8) : (storeByte j s).env = s.env := rfl
@[simp] theorem storeByte_aux (j : Fin 8) : (storeByte j s).aux = s.aux := rfl
@[simp] theorem storeByte_trace (j : Fin 8) : (storeByte j s).trace = s.trace := rfl
@[simp] theorem storeByte_cfg (j : Fin 8) : (storeByte j s).cfg = s.cfg := rfl

/-! ### sampleRio -/

@[simp] theorem sampleRio_sensor : (sampleRio s).sensor = s.sensor := rfl
@[simp] theorem sampleRio_rtc :
    (sampleRio s).rtc = { s.rtc with shift := putBit s.rtc.shift s.rtc.bitcnt (rioLevel s) } := rfl
@[simp] theorem sampleRio_quad : (sampleRio s).quad = s.quad := rfl
@[simp] theorem sampleRio_button : (sampleRio s).button = s.button := rfl
@[simp] theorem sampleRio_chan : (sampleRio s).chan = s.chan := rfl
@[simp] theorem sampleRio_ctl : (sampleRio s).ctl = s.ctl := rfl
@[simp] theorem sampleRio_pins : (sampleRio s).pins = s.pins := rfl
@[simp] theorem sampleRio_time : (sampleRio s).time = s.time := rfl
@[simp] theorem sampleRio_env : (sampleRio s).env = { s.env with rioIn := s.env.rioIn.tail } := rfl
@[simp] theorem sampleRio_aux : (sampleRio s).aux = { s.aux with freeCtr := s.aux.freeCtr + 1 } := rfl
@[simp] theorem sampleRio_trace : (sampleRio s).trace = s.trace := rfl
@[simp] theorem sampleRio_cfg : (sampleRio s).cfg = s.cfg := rfl

/-! ### setSlot -/

@[simp] theorem setSlot_sensor (e : PendingEvent) : (setSlot e s).sensor = s.sensor := rfl
@[simp] theorem setSlot_rtc (e : PendingEvent) : (setSlot e s).rtc = s.rtc := rfl
@[simp] theorem setSlot_quad (e : PendingEvent) : (setSlot e s).quad = s.quad := rfl
@[simp] theorem setSlot_button (e : PendingEvent) : (setSlot e s).button = s.button := rfl
@[simp] theorem setSlot_chan (e : PendingEvent) : (setSlot e s).chan = { s.chan with slot := e } := rfl
@[simp] theorem setSlot_ctl (e : PendingEvent) : (setSlot e s).ctl = s.ctl := rfl
@[simp] theorem setSlot_pins (e : PendingEvent) : (setSlot e s).pins = s.pins := rfl
@[simp] theorem setSlot_time (e : PendingEvent) : (setSlot e s).time = s.time := rfl
@[simp] theorem setSlot_env (e : PendingEvent) : (setSlot e s).env = s.env := rfl
@[simp] theorem setSlot_aux (e : PendingEvent) : (setSlot e s).aux = s.aux := rfl
@[simp] theorem setSlot_trace (e : PendingEvent) : (setSlot e s).trace = s.trace := rfl
@[simp] theorem setSlot_cfg (e : PendingEvent) : (setSlot e s).cfg = s.cfg := rfl

/-! ### setRecord -/

@[simp] theorem setRecord_sensor (r : Record) : (setRecord r s).sensor = s.sensor := rfl
@[simp] theorem setRecord_rtc (r : Record) : (setRecord r s).rtc = s.rtc := rfl
@[simp] theorem setRecord_quad (r : Record) : (setRecord r s).quad = s.quad := rfl
@[simp] theorem setRecord_button (r : Record) : (setRecord r s).button = s.button := rfl
@[simp] theorem setRecord_chan (r : Record) :
    (setRecord r s).chan = { s.chan with record := r, avail := decide (r.kind ≠ .none) } := rfl
@[simp] theorem setRecord_ctl (r : Record) : (setRecord r s).ctl = s.ctl := rfl
@[simp] theorem setRecord_pins (r : Record) : (setRecord r s).pins = s.pins := rfl
@[simp] theorem setRecord_time (r : Record) : (setRecord r s).time = s.time := rfl
@[simp] theorem setRecord_env (r : Record) : (setRecord r s).env = s.env := rfl
@[simp] theorem setRecord_aux (r : Record) : (setRecord r s).aux = s.aux := rfl
@[simp] theorem setRecord_trace (r : Record) : (setRecord r s).trace = s.trace := rfl
@[simp] theorem setRecord_cfg (r : Record) : (setRecord r s).cfg = s.cfg := rfl

/-! ### blockReader -/

@[simp] theorem blockReader_sensor : (blockReader s).sensor = s.sensor := rfl
@[simp] theorem blockReader_rtc : (blockReader s).rtc = s.rtc := rfl
@[simp] theorem blockReader_quad : (blockReader s).quad = s.quad := rfl
@[simp] theorem blockReader_button : (blockReader s).button = s.button := rfl
@[simp] theorem blockReader_chan : (blockReader s).chan = s.chan := rfl
@[simp] theorem blockReader_ctl : (blockReader s).ctl = { s.ctl with readers := s.ctl.readers + 1 } := rfl
@[simp] theorem blockReader_pins : (blockReader s).pins = s.pins := rfl
@[simp] theorem blockReader_time : (blockReader s).time = s.time := rfl
@[simp] theorem blockReader_env : (blockReader s).env = s.env := rfl
@[simp] theorem blockReader_aux : (blockReader s).aux = s.aux := rfl
@[simp] theorem blockReader_trace : (blockReader s).trace = s.trace := rfl
@[simp] theorem blockReader_cfg : (blockReader s).cfg = s.cfg := rfl

/-! ### encoderPins -/

@[simp] theorem encoderPins_sensor (a b : Bool) : (encoderPins a b s).sensor = s.sensor := rfl
@[simp] theorem encoderPins_rtc (a b : Bool) : (encoderPins a b s).rtc = s.rtc := rfl
@[simp] theorem encoderPins_quad (a b : Bool) : (encoderPins a b s).quad = s.quad := rfl
@[simp] theorem encoderPins_button (a b : Bool) : (encoderPins a b s).button = s.button := rfl
@[simp] theorem encoderPins_chan (a b : Bool) : (encoderPins a b s).chan = s.chan := rfl
@[simp] theorem encoderPins_ctl (a b : Bool) : (encoderPins a b s).ctl = s.ctl := rfl
@[simp] theorem encoderPins_pins (a b : Bool) : (encoderPins a b s).pins = { s.pins with encA := a, encB := b } := rfl
@[simp] theorem encoderPins_time (a b : Bool) : (encoderPins a b s).time = s.time := rfl
@[simp] theorem encoderPins_env (a b : Bool) : (encoderPins a b s).env = s.env := rfl
@[simp] theorem encoderPins_aux (a b : Bool) : (encoderPins a b s).aux = s.aux := rfl
@[simp] theorem encoderPins_trace (a b : Bool) : (encoderPins a b s).trace = s.trace := rfl
@[simp] theorem encoderPins_cfg (a b : Bool) : (encoderPins a b s).cfg = s.cfg := rfl

/-! ### setAcc -/

@[simp] theorem setAcc_sensor (v : Int) : (setAcc v s).sensor = s.sensor := rfl
@[simp] theorem setAcc_rtc (v : Int) : (setAcc v s).rtc = s.rtc := rfl
@[simp] theorem setAcc_quad (v : Int) : (setAcc v s).quad = { s.quad with acc := v } := rfl
@[simp] theorem setAcc_button (v : Int) : (setAcc v s).button = s.button := rfl
@[simp] theorem setAcc_chan (v : Int) : (setAcc v s).chan = s.chan := rfl
@[simp] theorem setAcc_ctl (v : Int) : (setAcc v s).ctl = s.ctl := rfl
@[simp] theorem setAcc_pins (v : Int) : (setAcc v s).pins = s.pins := rfl
@[simp] theorem setAcc_time (v : Int) : (setAcc v s).time = s.time := rfl
@[simp] theorem setAcc_env (v : Int) : (setAcc v s).env = s.env := rfl
@[simp] theorem setAcc_aux (v : Int) : (setAcc v s).aux = s.aux := rfl
@[simp] theorem setAcc_trace (v : Int) : (setAcc v s).trace = s.trace := rfl
@[simp] theorem setAcc_cfg (v : Int) : (setAcc v s).cfg = s.cfg := rfl

/-! ### dropItem -/

@[simp] theorem dropItem_sensor : (dropItem s).sensor = s.sensor := rfl
@[simp] theorem dropItem_rtc : (dropItem s).rtc = s.rtc := rfl
@[simp] theorem dropItem_quad : (dropItem s).quad = s.quad := rfl
@[simp] theorem dropItem_button : (dropItem s).button = s.button := rfl
@[simp] theorem dropItem_chan : (dropItem s).chan = s.chan := rfl
@[simp] theorem dropItem_ctl : (dropItem s).ctl = s.ctl := rfl
@[simp] theorem dropItem_pins : (dropItem s).pins = s.pins := rfl
@[simp] theorem dropItem_time : (dropItem s).time = s.time := rfl
@[simp] theorem dropItem_env : (dropItem s).env = { s.env with script := s.env.script.tail } := rfl
@[simp] theorem dropItem_aux : (dropItem s).aux = s.aux := rfl
@[simp] theorem dropItem_trace : (dropItem s).trace = s.trace := rfl
@[simp] theorem dropItem_cfg : (dropItem s).cfg = s.cfg := rfl

end Sys2Proof.Machine
end

