-- ==== Sys2Proof/Laws/Ops.lean ====
section
/-! SUPPORT. For each shared operation, once, everything it can do. Later proofs cite these and unfold nothing. -/

namespace Sys2Proof.Machine

/-! ### Contexts and places -/

/-- What a task-only operation can do: in task context what it is, in a handler its refusal. -/
theorem taskOnly_cases (r : Refusal) (s : State) (o : Host.Outcome State Fault Refusal) :
    (s.ctl.ctx = .task ∧ taskOnly r s o = o) ∨ (s.ctl.ctx = .interrupt ∧ taskOnly r s o = .refused r) := by
  unfold taskOnly
  cases h : s.ctl.ctx <;> simp

@[simp] theorem taskOnly_task {r : Refusal} {s : State} {o : Host.Outcome State Fault Refusal}
    (h : s.ctl.ctx = .task) : taskOnly r s o = o := by
  unfold taskOnly; rw [h]

@[simp] theorem taskOnly_interrupt {r : Refusal} {s : State} {o : Host.Outcome State Fault Refusal}
    (h : s.ctl.ctx = .interrupt) : taskOnly r s o = .refused r := by
  unfold taskOnly; rw [h]

/-- If a task-only operation answers a next state, it was called from a task and that is its answer. -/
theorem taskOnly_next {r : Refusal} {s t : State} {o : Host.Outcome State Fault Refusal}
    (h : taskOnly r s o = .next t) : s.ctl.ctx = .task ∧ o = .next t := by
  rcases taskOnly_cases r s o with ⟨h1, h2⟩ | ⟨_, h2⟩
  · exact ⟨h1, h2 ▸ h⟩
  · rw [h2] at h; cases h

/-- A step of a bus operation from a task is that step. -/
@[simp] theorem busStep_task {f : State → State} {s : State} (h : s.ctl.ctx = .task) : busStep f s = .next (f s) :=
  taskOnly_task h

/-- From a handler it is refused. -/
@[simp] theorem busStep_interrupt {f : State → State} {s : State} (h : s.ctl.ctx = .interrupt) :
    busStep f s = .refused .busOperationFromHandler :=
  taskOnly_interrupt h

/-- A guarded micro-step is the micro-step in its place and nothing elsewhere. -/
theorem inPlace_cases (here : Bool) (f : State → State) (s : State) :
    (here = true ∧ inPlace here f s = f s) ∨ (here = false ∧ inPlace here f s = s) := by
  cases here <;> simp [inPlace]

/-! ### The lock -/

/-- Releasing the lock frees it if the engine held it, and does nothing else. -/
theorem releaseLock_cases (e : Engine) (s : State) :
    (s.ctl.lock = .held e ∧ releaseLock e s = { s with ctl.lock := .free }) ∨
    (s.ctl.lock ≠ .held e ∧ releaseLock e s = s) := by
  unfold releaseLock
  split <;> simp_all

/-! ### Bytes on the RTC bus -/

/-- A bit out before the eighth (R163): two half-bits pass, the level joins the log, RIO is left driven. -/
theorem runByte_bit_out (b : Byte) (turn : Bool) (n : Nat) (s : State) (h : s.rtc.bitcnt < 7) :
    runByte (.out b turn) (n + 5) .drive s =
      runByte (.out b turn) n .drive
        { s with
          rtc.bitcnt := s.rtc.bitcnt + 1
          pins.rclk := false
          pins.rio := driveOf (bitAtHand s)
          time := s.time + s.cfg.tHalfbit + s.cfg.tHalfbit
          trace.rioLog := s.trace.rioLog ++ [bitAtHand s] } := by
  have h1 : s.rtc.bitcnt ≠ 7 := by omega
  have h2 : s.rtc.bitcnt + 1 < 8 := by omega
  cases turn <;>
    simp [runByte, bitAct, nextPhase, ByteKind.bitStart, driveRio, delay, clockRise, clockFall, bitAtHand, h1, h2]

/-- The eighth bit out (R163), with the turn-around between its edges or without it (R167). -/
theorem runByte_last_out (b : Byte) (turn : Bool) (n : Nat) (s : State) (h : s.rtc.bitcnt = 7) :
    runByte (.out b turn) (n + 6) .drive s =
      { s with
        rtc.bitcnt := 8
        pins.rclk := false
        pins.rio := if turn then .input else driveOf (bitAtHand s)
        time := s.time + s.cfg.tHalfbit + s.cfg.tHalfbit
        trace.rioLog := s.trace.rioLog ++ [bitAtHand s] } := by
  cases turn <;> simp [runByte, bitAct, nextPhase, driveRio, delay, clockRise, clockFall, bitAtHand, h]

/-- The bits out from the one at hand to the eighth (R163, R167). -/
theorem runByte_out (b : Byte) (turn : Bool) (m : Nat) (s : State) (h : s.rtc.bitcnt + m = 7) :
    runByte (.out b turn) (5 * m + 6) .drive s =
      { s with
        rtc.bitcnt := 8
        pins.rclk := false
        pins.rio := if turn then .input else driveOf (s.rtc.shift.getLsbD 7)
        time := s.time + (2 * m + 2) * s.cfg.tHalfbit
        trace.rioLog :=
          s.trace.rioLog ++ (List.range (m + 1)).map (fun i => s.rtc.shift.getLsbD (s.rtc.bitcnt + i)) } := by
  induction m generalizing s with
  | zero =>
    rw [runByte_last_out b turn 0 s h]
    have h7 : s.rtc.bitcnt = 7 := h
    simp [bitAtHand, h7]
    omega
  | succ m ih =>
    rw [show 5 * (m + 1) + 6 = (5 * m + 6) + 5 from by omega, runByte_bit_out b turn _ s (by omega), ih _ (by simp; omega)]
    have e : ∀ x : Nat, s.time + x + x + (2 * m + 2) * x = s.time + (2 * (m + 1) + 2) * x := fun x => by
      simp only [Nat.add_mul, Nat.mul_add]; omega
    simp only [e, bitAtHand]
    congr 2
    rw [List.range_succ_eq_map (n := m + 1)]
    simp [Function.comp_def, Nat.add_assoc, Nat.add_comm 1]

/-- A byte out (R163): its bits in order, least significant first, two half-bits each. -/
theorem writeByte_eq (turn : Bool) (b : Byte) (s : State) :
    writeByte turn b s =
      { s with
        rtc.shift := b
        rtc.bitcnt := 8
        pins.rclk := false
        pins.rio := if turn then .input else driveOf (b.getLsbD 7)
        time := s.time + 16 * s.cfg.tHalfbit
        trace.rioLog := s.trace.rioLog ++ lsbBits b } := by
  have h0 : writeByte turn b s = runByte (.out b turn) (5 * 7 + 6) .drive { s with rtc.shift := b, rtc.bitcnt := 0 } :=
    rfl
  rw [h0, runByte_out b turn 7 _ rfl]
  rfl

/-- A bit in before the eighth (R164): the level goes to the next bit of the shift register and to the log. -/
theorem runByte_bit_in (n : Nat) (s : State) (h : s.rtc.bitcnt < 7) :
    runByte .into (n + 5) .low s =
      runByte .into n .low
        { s with
          rtc.shift := putBit s.rtc.shift s.rtc.bitcnt (rioLevel s)
          rtc.bitcnt := s.rtc.bitcnt + 1
          pins.rclk := false
          time := s.time + s.cfg.tHalfbit + s.cfg.tHalfbit
          env.rioIn := s.env.rioIn.tail
          aux.freeCtr := s.aux.freeCtr + 1
          trace.rioLog :=
            s.trace.rioLog ++ [(putBit s.rtc.shift s.rtc.bitcnt (rioLevel s)).getLsbD s.rtc.bitcnt] } := by
  have h2 : s.rtc.bitcnt + 1 < 8 := by omega
  simp [runByte, bitAct, nextPhase, ByteKind.bitStart, delay, sampleRio, useFree, clockRise, clockFall, bitAtHand, rioLevel,
    h2]

/-- The eighth bit in (R164). -/
theorem runByte_last_in (n : Nat) (s : State) (h : s.rtc.bitcnt = 7) :
    runByte .into (n + 5) .low s =
      { s with
        rtc.shift := putBit s.rtc.shift 7 (rioLevel s)
        rtc.bitcnt := 8
        pins.rclk := false
        time := s.time + s.cfg.tHalfbit + s.cfg.tHalfbit
        env.rioIn := s.env.rioIn.tail
        aux.freeCtr := s.aux.freeCtr + 1
        trace.rioLog := s.trace.rioLog ++ [(putBit s.rtc.shift 7 (rioLevel s)).getLsbD 7] } := by
  simp [runByte, bitAct, nextPhase, delay, sampleRio, useFree, clockRise, clockFall, bitAtHand, rioLevel, h]

/-- What a bit put into the shift register changes (R164). -/
theorem putBit_getLsbD (v : Byte) (i j : Nat) (bit : Bool) (hj : j < 8) :
    (putBit v i bit).getLsbD j = (v.getLsbD j || (decide (j = i) && bit)) := by
  unfold putBit
  cases bit
  · simp
  · have h : BitVec.ofNat 8 true.toNat <<< i = BitVec.twoPow 8 i := by simp [BitVec.twoPow_eq]
    rw [h]
    simp [hj]

/-- The level RIO will have at the sample `i` samples on, driven as it is now (R164, log 5). -/
def rioAhead (s : State) (i : Nat) : Bool :=
  match s.pins.rio with
  | .drive0 => false
  | .drive1 => true
  | .input => (s.env.rioIn.drop i).headD (Config.freeLevel (s.aux.freeCtr + i))

/-- The bits in from the one at hand to the eighth (R164). -/
theorem runByte_in (m x : Nat) (s : State) (h : s.rtc.bitcnt + m = 7)
    (h0 : ∀ j, s.rtc.bitcnt ≤ j → s.rtc.shift.getLsbD j = false) :
    ∃ v : Byte,
      runByte .into (5 * m + 5 + x) .low s =
        { s with
          rtc.shift := v
          rtc.bitcnt := 8
          pins.rclk := false
          time := s.time + (2 * m + 2) * s.cfg.tHalfbit
          env.rioIn := s.env.rioIn.drop (m + 1)
          aux.freeCtr := s.aux.freeCtr + (m + 1)
          trace.rioLog := s.trace.rioLog ++ (List.range (m + 1)).map (fun i => v.getLsbD (s.rtc.bitcnt + i)) } ∧
      (∀ j, j < s.rtc.bitcnt → v.getLsbD j = s.rtc.shift.getLsbD j) ∧
      ∀ i, i ≤ m → v.getLsbD (s.rtc.bitcnt + i) = rioAhead s i := by
  induction m generalizing s with
  | zero =>
    have h7 : s.rtc.bitcnt = 7 := h
    refine ⟨putBit s.rtc.shift 7 (rioLevel s), ?_, ?_, ?_⟩
    · rw [show 5 * 0 + 5 + x = x + 5 from by omega, runByte_last_in x s h]
      simp [h7]
      omega
    · intro j hj
      rw [putBit_getLsbD _ _ _ _ (by omega)]
      simp [show j ≠ 7 by omega]
    · intro i hi
      obtain rfl : i = 0 := by omega
      rw [putBit_getLsbD _ _ _ _ (by omega), h7, h0 _ (by omega)]
      cases hr : s.pins.rio <;> simp [rioLevel, rioAhead, hr]
  | succ m ih =>
    have hv : ∀ j, s.rtc.bitcnt + 1 ≤ j → (putBit s.rtc.shift s.rtc.bitcnt (rioLevel s)).getLsbD j = false := by
      intro j hj
      by_cases h8 : j < 8
      · rw [putBit_getLsbD _ _ _ _ h8, h0 _ (by omega)]
        simp [show j ≠ s.rtc.bitcnt by omega]
      · exact BitVec.getLsbD_of_ge _ _ (by omega)
    rw [show 5 * (m + 1) + 5 + x = (5 * m + 5 + x) + 5 from by omega, runByte_bit_in _ s (by omega)]
    obtain ⟨v, e, lo, hi⟩ :=
      ih { s with
          rtc.shift := putBit s.rtc.shift s.rtc.bitcnt (rioLevel s)
          rtc.bitcnt := s.rtc.bitcnt + 1
          pins.rclk := false
          time := s.time + s.cfg.tHalfbit + s.cfg.tHalfbit
          env.rioIn := s.env.rioIn.tail
          aux.freeCtr := s.aux.freeCtr + 1
          trace.rioLog :=
            s.trace.rioLog ++ [(putBit s.rtc.shift s.rtc.bitcnt (rioLevel s)).getLsbD s.rtc.bitcnt] }
        (show s.rtc.bitcnt + 1 + m = 7 by omega) hv
    have hb : v.getLsbD s.rtc.bitcnt = rioLevel s := by
      rw [lo _ (by simp), putBit_getLsbD _ _ _ _ (by omega), h0 _ (by omega)]
      simp
    have hp : (putBit s.rtc.shift s.rtc.bitcnt (rioLevel s)).getLsbD s.rtc.bitcnt = rioLevel s := by
      rw [putBit_getLsbD _ _ _ _ (by omega), h0 _ (by omega)]
      simp
    refine ⟨v, ?_, ?_, ?_⟩
    · rw [e]
      have et : ∀ x : Nat, s.time + x + x + (2 * m + 2) * x = s.time + (2 * (m + 1) + 2) * x := fun x => by
        simp only [Nat.add_mul, Nat.mul_add]; omega
      have ef : s.aux.freeCtr + 1 + (m + 1) = s.aux.freeCtr + (m + 1 + 1) := by omega
      simp only [et, ef, hp, List.drop_tail]
      congr 2
      rw [List.range_succ_eq_map (n := m + 1)]
      simp [Function.comp_def, Nat.add_assoc, Nat.add_comm 1, hb]
    · intro j hj
      rw [lo _ (by simp; omega), putBit_getLsbD _ _ _ _ (by omega)]
      simp [show j ≠ s.rtc.bitcnt by omega]
    · intro i hi'
      cases i with
      | zero => rw [Nat.add_zero, hb]; cases hr : s.pins.rio <;> simp [rioLevel, rioAhead, hr]
      | succ i =>
        have := hi i (by omega)
        rw [show s.rtc.bitcnt + (i + 1) = s.rtc.bitcnt + 1 + i by omega, this]
        cases hr : s.pins.rio <;>
          simp [rioAhead, hr, List.drop_tail, Nat.add_assoc, Nat.add_comm 1]

/-- A byte in (R164): its bits are the levels of RIO in order, least significant first, two half-bits each. -/
theorem readByte_eq (s : State) :
    ∃ v : Byte,
      readByte s =
        { s with
          rtc.shift := v
          rtc.bitcnt := 8
          pins.rclk := false
          time := s.time + 16 * s.cfg.tHalfbit
          env.rioIn := s.env.rioIn.drop 8
          aux.freeCtr := s.aux.freeCtr + 8
          trace.rioLog := s.trace.rioLog ++ lsbBits v } ∧
      ∀ i, i < 8 → v.getLsbD i = rioAhead s i := by
  obtain ⟨v, e, _, hi⟩ := runByte_in 7 1 { s with rtc.shift := 0, rtc.bitcnt := 0 } rfl (by simp)
  refine ⟨v, ?_, fun i h => ?_⟩
  · exact e.trans rfl
  · have := hi i (by omega)
    simpa [rioAhead] using this

/-! ### The micro-steps of the RTC engine -/

/-- What a micro-step of a byte leaves in `C_BITCNT`. -/
theorem bitAct_bitcnt (k : ByteKind) (q : BitPhase) (s : State) :
    (bitAct k q s).rtc.bitcnt =
      match q with
      | .load => 0
      | .fall => s.rtc.bitcnt + 1
      | _ => s.rtc.bitcnt := by
  cases q <;> rfl

/-- A micro-step of a byte does not read where the engine stands. -/
theorem bitAct_phaseTo (k : ByteKind) (q : BitPhase) (ph : CPhase) (s : State) :
    bitAct k q (phaseTo ph s) = phaseTo ph (bitAct k q s) := by
  cases q <;> rfl

/-- Nor does it move the position, the parameters or the operand. -/
theorem bitAct_seq (k : ByteKind) (q : BitPhase) (s : State) : (bitAct k q s).rtc.seq = s.rtc.seq := by
  cases q <;> rfl

theorem bitAct_cfg (k : ByteKind) (q : BitPhase) (s : State) : (bitAct k q s).cfg = s.cfg := by
  cases q <;> rfl

theorem bitAct_wbuf (k : ByteKind) (q : BitPhase) (s : State) : (bitAct k q s).rtc.wbuf = s.rtc.wbuf := by
  cases q <;> rfl

/-- How many micro-steps there are from `q`, with `c` in `C_BITCNT`, to the end of the byte, if at most `n`. -/
def byteLength (k : ByteKind) : Nat → BitPhase → Nat → Option Nat
  | 0, _, _ => none
  | n + 1, q, c =>
    let c' := match q with
      | .load => 0
      | .fall => c + 1
      | _ => c
    match nextPhase k q c' with
    | some q' => (byteLength k n q' c').map (· + 1)
    | none => some 1

theorem byteLength_write (b : Byte) (turn : Bool) :
    byteLength (.out b turn) byteTicks .load 0 = some (if turn then 42 else 41) := by
  cases turn <;> rfl

theorem byteLength_read : byteLength .into byteTicks .load 0 = some 41 := rfl

/-- The micro-steps of a byte, one after the other, are the byte run at once; `done` follows its last, whatever was next
before (log 18). `F` is anything that goes on micro-step by micro-step, as `runRtc` and `untilByte` do. -/
theorem byte_ticks {F G : Nat → State → State} {k : ByteKind} {put : BitPhase → CPhase} {done : State → State}
    {Q : State → Prop}
    (hF : ∀ n q s, Q s → s.rtc.phase = put q → F (n + 1) s =
      match nextPhase k q (bitAct k q s).rtc.bitcnt with
      | some q' => F n (phaseTo (put q') (bitAct k q s))
      | none => G n (done (bitAct k q s)))
    (hQ : ∀ q ph s, Q s → Q (phaseTo ph (bitAct k q s)))
    (hdone : ∀ ph s, done (phaseTo ph s) = done s) (fuel n : Nat) :
    ∀ (m : Nat) (q : BitPhase) (s : State), Q s → s.rtc.phase = put q →
      byteLength k fuel q s.rtc.bitcnt = some m → F (m + n) s = G n (done (runByte k fuel q s)) := by
  have run_phase : ∀ fuel q ph s, runByte k fuel q (phaseTo ph s) = phaseTo ph (runByte k fuel q s) := by
    intro fuel
    induction fuel with
    | zero => intro q ph s; rfl
    | succ fuel ih =>
      intro q ph s
      simp only [runByte, bitAct_phaseTo, phaseTo_rtc]
      cases nextPhase k q (bitAct k q s).rtc.bitcnt with
      | none => rfl
      | some q' => exact ih _ _ _
  induction fuel with
  | zero => intro m q s _ _ h; cases h
  | succ fuel ih =>
    intro m q s hs hp hm
    simp only [byteLength, ← bitAct_bitcnt k] at hm
    simp only [runByte]
    cases hn : nextPhase k q (bitAct k q s).rtc.bitcnt with
    | none =>
      simp only [hn] at hm
      cases hm
      rw [Nat.add_comm, hF n q s hs hp, hn]
    | some q' =>
      simp only [hn] at hm
      obtain ⟨m', hm', rfl⟩ := Option.map_eq_some_iff.mp hm
      rw [show m' + 1 + n = (m' + n) + 1 by omega, hF _ q s hs hp, hn]
      have := ih m' q' (phaseTo (put q') (bitAct k q s)) (hQ _ _ _ hs) rfl hm'
      simp only at this ⊢
      rw [this, run_phase, hdone]

/-- After the load of a byte no micro-step of it is the load again. -/
theorem nextPhase_ne_load {k : ByteKind} {q q' : BitPhase} {n : Nat} (h : nextPhase k q n = some q') : q' ≠ .load := by
  rintro rfl
  revert h
  rcases k with ⟨_, _ | _⟩ | _ <;> cases q <;> simp [nextPhase, ByteKind.bitStart]
  all_goals split <;> simp

/-- A byte that the sequencer is about to begin, in as many micro-steps as it has: run on, and run to the next byte. -/
theorem rtc_byte {k : ByteKind} {put : BitPhase → CPhase} {done : State → State} {s : State} {m : Nat}
    (htick : ∀ q t, t.rtc.seq = s.rtc.seq → t.cfg = s.cfg → t.rtc.wbuf = s.rtc.wbuf → t.rtc.phase = put q →
      rtcTick t = byteTick k put done q t)
    (hidle : s.rtc.seq ≠ .idle) (hput : put = .command ∨ put = .data) (hp : s.rtc.phase = put .load)
    (hdone : ∀ ph s, done (phaseTo ph s) = done s) (hm : byteLength k byteTicks .load 0 = some m) (n : Nat) :
    runRtc (m + n) s = runRtc n (done (runByte k byteTicks .load s)) ∧
    untilByte (m + n) s =
      if betweenBytes (done (runByte k byteTicks .load s)) then done (runByte k byteTicks .load s)
      else untilByte n (done (runByte k byteTicks .load s)) := by
  have hl : byteLength k byteTicks .load s.rtc.bitcnt = some m := hm ▸ rfl
  have hQ : ∀ (q : BitPhase) (ph : CPhase) (t : State),
      t.rtc.seq = s.rtc.seq ∧ t.cfg = s.cfg ∧ t.rtc.wbuf = s.rtc.wbuf →
      (phaseTo ph (bitAct k q t)).rtc.seq = s.rtc.seq ∧ (phaseTo ph (bitAct k q t)).cfg = s.cfg ∧
      (phaseTo ph (bitAct k q t)).rtc.wbuf = s.rtc.wbuf := fun q ph t h =>
    ⟨(bitAct_seq k q t).trans h.1, (bitAct_cfg k q t).trans h.2.1, (bitAct_wbuf k q t).trans h.2.2⟩
  constructor
  · refine byte_ticks (F := runRtc) (G := runRtc) (fun n q t ht hq => ?_) hQ hdone byteTicks n m .load s ⟨rfl, rfl, rfl⟩
      hp hl
    rw [runRtc, if_neg (by rw [ht.1]; exact hidle), htick q t ht.1 ht.2.1 ht.2.2 hq, byteTick]
    cases nextPhase k q (bitAct k q t).rtc.bitcnt <;> rfl
  · refine byte_ticks (F := untilByte) (G := fun n t => if betweenBytes t then t else untilByte n t)
      (fun n q t ht hq => ?_) hQ hdone byteTicks n m .load s ⟨rfl, rfl, rfl⟩ hp hl
    rw [untilByte, htick q t ht.1 ht.2.1 ht.2.2 hq, byteTick]
    cases h : nextPhase k q (bitAct k q t).rtc.bitcnt with
    | none => rfl
    | some q' =>
      have : betweenBytes (phaseTo (put q') (bitAct k q t)) = false := by
        rcases hput with rfl | rfl <;> simp [betweenBytes, nextPhase_ne_load h]
      simp [this]

theorem afterCommand_phaseTo (ph : CPhase) (s : State) : afterCommand (phaseTo ph s) = afterCommand s := by
  simp only [afterCommand, phaseTo_rtc]
  cases s.rtc.seq <;> rfl

theorem afterData_phaseTo (ph : CPhase) (s : State) : afterData (phaseTo ph s) = afterData s := by
  simp only [afterData, phaseTo_rtc]
  cases s.rtc.seq <;> rfl

/-- The command byte of a pair (R165). -/
theorem rtc_pairCommand {p : Fin 9} {s : State} (hs : s.rtc.seq = .wPair p) (hp : s.rtc.phase = .command .load) (n : Nat) :
    let t := phaseTo (.data .load) (writeByte false (pairCommand s.cfg p) s)
    runRtc (41 + n) s = runRtc n t ∧ untilByte (41 + n) s = t := by
  have e : afterCommand (writeByte false (pairCommand s.cfg p) s) =
      phaseTo (.data .load) (writeByte false (pairCommand s.cfg p) s) := by
    simp only [writeByte_eq, afterCommand, hs]
  have h := rtc_byte (k := .out (pairCommand s.cfg p) false) (put := .command) (done := afterCommand)
    (fun q t h1 h2 _ h4 => by simp only [rtcTick, h1.trans hs, windowTick, h4, commandKind, h2])
    (by rw [hs]; simp) (.inl rfl) hp afterCommand_phaseTo (byteLength_write _ _) n
  rw [← writeByte, e] at h
  exact ⟨h.1, h.2.trans (if_pos rfl)⟩

/-- The data byte of a pair (R165). -/
theorem rtc_pairData {p : Fin 9} {s : State} (hs : s.rtc.seq = .wPair p) (hp : s.rtc.phase = .data .load) (n : Nat) :
    let t := phaseTo .trail (writeByte false (pairData s.cfg s.rtc.wbuf p) s)
    runRtc (41 + n) s = runRtc n t ∧ untilByte (41 + n) s = untilByte n t := by
  have e : afterData (writeByte false (pairData s.cfg s.rtc.wbuf p) s) =
      phaseTo .trail (writeByte false (pairData s.cfg s.rtc.wbuf p) s) := by
    simp only [writeByte_eq, afterData, hs]
  have h := rtc_byte (k := .out (pairData s.cfg s.rtc.wbuf p) false) (put := .data) (done := afterData)
    (fun q t h1 h2 h3 h4 => by simp only [rtcTick, h1.trans hs, windowTick, h4, dataKind, h2, h3])
    (by rw [hs]; simp) (.inr rfl) hp afterData_phaseTo (byteLength_write _ _) n
  rw [← writeByte, e] at h
  exact ⟨h.1, h.2.trans (if_neg (by simp [betweenBytes]))⟩

/-- The command byte of a burst read, with the turn-around (R166, R167). -/
theorem rtc_burstCommand {s : State} (hs : s.rtc.seq = .rCmd) (hp : s.rtc.phase = .command .load) (n : Nat) :
    let t := rtcTo (.rData 0) (.data .load) (writeByte true s.cfg.cmdBurstRead s)
    runRtc (42 + n) s = runRtc n t ∧ untilByte (42 + n) s = t := by
  have e : afterCommand (writeByte true s.cfg.cmdBurstRead s) =
      rtcTo (.rData 0) (.data .load) (writeByte true s.cfg.cmdBurstRead s) := by
    simp only [writeByte_eq, afterCommand, hs]
  have h := rtc_byte (k := .out s.cfg.cmdBurstRead true) (put := .command) (done := afterCommand)
    (fun q t h1 h2 _ h4 => by simp only [rtcTick, h1.trans hs, windowTick, h4, commandKind, h2])
    (by rw [hs]; simp) (.inl rfl) hp afterCommand_phaseTo (byteLength_write _ _) n
  rw [← writeByte, e] at h
  exact ⟨h.1, h.2.trans (if_pos rfl)⟩

/-- Byte `j` of a burst read: it goes to `CBUF[j]`, and the next byte follows, or the end of the window (R166). -/
theorem rtc_burstByte {j : Fin 8} {s : State} (hs : s.rtc.seq = .rData j) (hp : s.rtc.phase = .data .load) (n : Nat) :
    (∀ h : j.val + 1 < 8,
      let t := rtcTo (.rData ⟨j.val + 1, h⟩) (.data .load) (storeByte j (readByte s))
      runRtc (41 + n) s = runRtc n t ∧ untilByte (41 + n) s = t) ∧
    (¬ j.val + 1 < 8 →
      let t := phaseTo .trail (storeByte j (readByte s))
      runRtc (41 + n) s = runRtc n t ∧ untilByte (41 + n) s = untilByte n t) := by
  have hr : (readByte s).rtc.seq = .rData j := by
    obtain ⟨v, e, _⟩ := readByte_eq s
    rw [e]; exact hs
  have h := rtc_byte (k := .into) (put := .data) (done := afterData)
    (fun q t h1 _ _ h4 => by simp only [rtcTick, h1.trans hs, windowTick, h4, dataKind])
    (by rw [hs]; simp) (.inr rfl) hp afterData_phaseTo byteLength_read n
  rw [← readByte] at h
  constructor <;> intro hj
  · have e : afterData (readByte s) = rtcTo (.rData ⟨j.val + 1, hj⟩) (.data .load) (storeByte j (readByte s)) := by
      simp only [afterData, hr, dif_pos hj]
    rw [e] at h
    exact ⟨h.1, h.2.trans (if_pos rfl)⟩
  · have e : afterData (readByte s) = phaseTo .trail (storeByte j (readByte s)) := by
      simp only [afterData, hr, dif_neg hj]
    rw [e] at h
    exact ⟨h.1, h.2.trans (if_neg (by simp [betweenBytes]))⟩

/-! ### Ending an operation -/

/-- The exit of READ_SENSOR (R296): everything it writes. -/
theorem sensorExit_eq (s : State) :
    sensorExit s =
      { s with
        sensor.seq := .idle
        ctl.mask := false
        ctl.lock := if s.ctl.lock = .held .sensor then .free else s.ctl.lock
        pins.sdata := .input
        env.sensorIn := s.env.sensorIn.tail } := by
  unfold sensorExit
  rcases releaseLock_cases .sensor { driveSdata .input s with ctl.mask := false, sensor.seq := .idle } with
    ⟨h, e⟩ | ⟨h, e⟩ <;> rw [e] <;> simp_all [dropAnswer, driveSdata]

/-! ### The event channel -/

/-- A push: the slot takes the event, the record too where the event makes one, and the history grows by it (R251,
R253). -/
theorem push_cases (e : PushEvent) (s : State) :
    (∃ r, recordOf s.cfg.lastevOnUp e = some r ∧
      push e s =
        { s with
          chan := { slot := slotOf e, record := r, avail := true }
          trace.history := s.trace.history ++ [.push e] }) ∨
    (recordOf s.cfg.lastevOnUp e = none ∧
      push e s = { s with chan.slot := slotOf e, trace.history := s.trace.history ++ [.push e] }) := by
  cases e <;> cases h : s.cfg.lastevOnUp <;>
    simp [push, recordOf, postRecord, setRecord, setSlot, recordEvent, slotOf, h]

/-! ### The decoder and the latch -/

/-- A push reads no context: running it in a handler is running it (R256). -/
theorem inHandler_push (e : PushEvent) (s : State) : inHandler (push e) s = push e s := by
  cases e <;> cases h : s.cfg.lastevOnUp <;>
    simp [inHandler, push, recordOf, postRecord, setRecord, setSlot, recordEvent, h]

/-- Nor does the encoder's handler (R300). -/
theorem inHandler_encoderHandler (new : RawState) (s : State) :
    inHandler (encoderHandler new) s = encoderHandler new s := by
  cases h : s.cfg.lastevOnUp <;> simp only [inHandler, encoderHandler, acceptEdge, accumulate] <;>
    repeat' split
  all_goals rfl

/-- Nor does the button's. -/
theorem inHandler_buttonHandler (l : Bool) (s : State) : inHandler (buttonHandler l) s = buttonHandler l s := by
  cases h : s.cfg.lastevOnUp <;> simp only [inHandler, buttonHandler, pressButton, releaseButton] <;>
    repeat' split
  all_goals simp [push, recordOf, postRecord, setRecord, setSlot, recordEvent, h]

/-- All that an ENC_EDGE can do besides moving the pin levels (R201, R202, R304). -/
theorem encoderEdge_cases (a b : Bool) (s : State) :
    (s.quad.rotEn = false ∧ encoderEdge a b s = encoderPins a b s) ∨
    (s.quad.rotEn = true ∧ s.ctl.mask = true ∧ encoderEdge a b s = encoderPins a b (holdEncoder a b s)) ∨
    (s.quad.rotEn = true ∧ s.ctl.mask = false ∧ within s.cfg.tGlitch s.quad.last s.time = true ∧
      encoderEdge a b s = encoderPins a b s) ∨
    (s.quad.rotEn = true ∧ s.ctl.mask = false ∧ within s.cfg.tGlitch s.quad.last s.time = false ∧
      encoderEdge a b s = encoderPins a b (acceptEdge (rawState a b) s)) := by
  unfold encoderEdge
  rw [inHandler_encoderHandler]
  unfold encoderHandler
  cases s.quad.rotEn <;> cases s.ctl.mask <;> cases within s.cfg.tGlitch s.quad.last s.time <;> simp

/-- All that a BTN_EDGE can do besides moving the pin level (R231, R304). -/
theorem buttonEdge_cases (l : Bool) (s : State) :
    (s.ctl.mask = true ∧
      buttonEdge l s = { s with ctl.pend.btn := s.ctl.pend.btn || s.env.keep.btn, pins.btn := l }) ∨
    (s.ctl.mask = false ∧ l = s.cfg.btnActive ∧ buttonEdge l s = { pressButton s with pins.btn := l }) ∨
    (s.ctl.mask = false ∧ l ≠ s.cfg.btnActive ∧ buttonEdge l s = { releaseButton s with pins.btn := l }) := by
  unfold buttonEdge
  rw [inHandler_buttonHandler]
  unfold buttonHandler
  cases s.ctl.mask <;> by_cases h : l = s.cfg.btnActive <;> simp [h]

/-- What counting a valid transition can do (R206, R207). -/
theorem accumulate_cases (d : Int) (s : State) :
    (s.quad.acc + d ≥ s.cfg.nDetent ∧ accumulate d s = setAcc 0 (push .rotateCW s)) ∨
    (s.quad.acc + d < s.cfg.nDetent ∧ s.quad.acc + d ≤ -(s.cfg.nDetent : Int) ∧
      accumulate d s = setAcc 0 (push .rotateCCW s)) ∨
    (-(s.cfg.nDetent : Int) < s.quad.acc + d ∧ s.quad.acc + d < s.cfg.nDetent ∧
      accumulate d s = setAcc (s.quad.acc + d) s) := by
  unfold accumulate
  by_cases h1 : s.quad.acc + d ≥ s.cfg.nDetent
  · exact .inl ⟨h1, if_pos h1⟩
  · by_cases h2 : s.quad.acc + d ≤ -(s.cfg.nDetent : Int)
    · exact .inr (.inl ⟨by omega, h2, by simp only [if_neg h1, if_pos h2]⟩)
    · exact .inr (.inr ⟨by omega, by omega, by simp only [if_neg h1, if_neg h2]⟩)

/-- All that a press-level event can do (R233, R234). -/
theorem pressButton_cases (s : State) :
    pressButton s = s ∨
    (s.button.latch = false ∧ within s.cfg.tDebounce s.button.last s.time = false ∧
      pressButton s = push .buttonDown { s with button := { latch := true, last := some s.time } }) := by
  unfold pressButton
  cases within s.cfg.tDebounce s.button.last s.time <;> cases s.button.latch <;> simp

/-- All that a release-level event can do (R232). -/
theorem releaseButton_cases (s : State) :
    (s.button.latch = false ∧ releaseButton s = s) ∨
    (s.button.latch = true ∧ releaseButton s = push .buttonUp { s with button.latch := false }) := by
  unfold releaseButton
  cases s.button.latch <;> simp

/-! ### The engines -/

/-- What a wait step of the sequencer can do (R139, R140): go on, or end the operation with Timeout. -/
theorem waitThen_cases (v : Bool) (onward : State → State) (s : State) :
    ((waitLevel v s).aux.waitOk = true ∧ waitThen v onward s = onward (waitLevel v s)) ∨
    ((waitLevel v s).aux.waitOk = false ∧
      waitThen v onward s =
        raiseSensor .timeout ((waitStep s.sensor.seq).getD 0)
          (recordEvent (.sensorTimeout ((waitStep s.sensor.seq).getD 0)) (waitLevel v s))) := by
  cases h : (waitLevel v s).aux.waitOk <;> simp [waitThen, h]

/-- Running the engine from a position that is not idle takes one micro-step. -/
theorem runSensor_succ {n : Nat} {s : State} (h : s.sensor.seq ≠ .idle) :
    runSensor (n + 1) s = runSensor n (sensorTick none s) := by
  simp only [runSensor, if_neg h]

theorem runSensor_idle {n : Nat} {s : State} (h : s.sensor.seq = .idle) : runSensor n s = s := by
  cases n <;> simp [runSensor, h]

theorem runRtc_succ {n : Nat} {s : State} (h : s.rtc.seq ≠ .idle) :
    runRtc (n + 1) s = runRtc n (rtcTick s) := by
  simp only [runRtc, if_neg h]

theorem runRtc_idle {n : Nat} {s : State} (h : s.rtc.seq = .idle) : runRtc n s = s := by
  cases n <;> simp [runRtc, h]

/-- A WRITE_CLOCK that waits for the lock joins the waiting requests when another operation of its engine begins; else
nothing happens (R70, log 13). -/
theorem displace_cases (s : State) :
    (s.rtc.seq = .wCheck ∧
      displace s =
        { s with rtc.seq := .idle, ctl.waiting := s.ctl.waiting ++ [.writeClock s.rtc.wbuf] }) ∨
    (s.rtc.seq ≠ .wCheck ∧ displace s = s) := by
  unfold displace
  by_cases h : s.rtc.seq = .wCheck
  · exact .inl ⟨h, by rw [if_pos h]; rfl⟩
  · exact .inr ⟨h, if_neg h⟩

/-- What the decode of a clock read can do (R170, R174). -/
theorem decodeClock_cases (s : State) :
    (∃ v, clockDec s.cfg s.rtc.cbuf = some v ∧
      decodeClock s = { s with rtc.clock := v, rtc.valid := true, rtc.cerr := .ok, rtc.seq := .idle }) ∨
    (clockDec s.cfg s.rtc.cbuf = none ∧ decodeClock s = raiseReadClock s) := by
  unfold decodeClock
  cases h : clockDec s.cfg s.rtc.cbuf <;> simp

/-! ### Agents -/

/-- A picked agent takes its step, but in the critical section only the sensor engine does (R308). -/
theorem runPick_cases (p : Pick) (s : State) :
    (mayMove p s = true ∧ runPick p s = agentStep p s) ∨
    (mayMove p s = false ∧ s.ctl.mask = true ∧ runPick p s = s) := by
  unfold runPick
  cases p <;> cases h : s.ctl.mask <;> simp [mayMove, h]

/-! ### A line's turn -/

/-- News of the environment adds to the inputs and touches nothing else. -/
theorem installAll_env (news : List EnvItem) (s : State) :
    ∃ e : Env, installAll news s = { s with env := e } ∧ e.script = s.env.script ∧
      s.env.sensorIn <+: e.sensorIn ∧ s.env.rioIn <+: e.rioIn ∧ (news = [] → e = s.env) := by
  induction news generalizing s with
  | nil => exact ⟨s.env, rfl, rfl, List.prefix_refl _, List.prefix_refl _, fun _ => rfl⟩
  | cons i rest ih =>
    obtain ⟨e, h1, h2, h3, h4, _⟩ := ih (install i s)
    refine ⟨e, ?_, ?_, ?_, ?_, fun h => nomatch h⟩
    · rw [installAll, h1]; cases i <;> rfl
    · rw [h2]; cases i <;> rfl
    · exact List.IsPrefix.trans (by cases i <;> simp [install]) h3
    · exact List.IsPrefix.trans (by cases i <;> simp [install]) h4

/-- All that a line at the head of the script can do (R116, R308). -/
theorem takeLine_cases (l : Line) (s : State) :
    (∃ e, decode s.cfg l.fmt l.bytes = .error e ∧ takeLine l s = .refused (.unreadableLine e)) ∨
    ∃ i rest, decode s.cfg l.fmt l.bytes = .ok (i, rest) ∧
      ((needsTime i = true ∧ l.time = none ∧ takeLine l s = .refused .edgeLineWithoutTime) ∨
        ((needsTime i = false ∨ l.time ≠ none) ∧ heldBack l i s = true ∧ takeLine l s = .next (sensorTick none s)) ∨
        ((needsTime i = false ∨ l.time ≠ none) ∧ heldBack l i s = false ∧
          takeLine l s = backToTask (runLine l i (serveLine l s)))) := by
  unfold takeLine
  cases h : decode s.cfg l.fmt l.bytes with
  | error e => exact .inl ⟨e, rfl, rfl⟩
  | ok r =>
    refine .inr ⟨r.1, r.2, rfl, ?_⟩
    cases h1 : needsTime r.1 <;> cases h2 : l.time <;> cases h3 : heldBack l r.1 s <;> simp [h1, h3]

/-! ### A step -/

theorem step_goOn {s : State} (h : s.env.script = []) : step s = .next (goOn s) := by
  simp only [step, h]

theorem step_line {s : State} {l : Line} {rest : List Item} (h : s.env.script = .line l :: rest) :
    step s = takeLine l s := by
  simp only [step, h]

theorem step_stepEdge {s : State} {t : Nat} {cw : Bool} {rest : List Item} (h : s.env.script = .stepEdge t cw :: rest) :
    step s = takeLine (stepLine t cw s) s := by
  simp only [step, h]

theorem step_pick {s : State} {p : Pick} {rest : List Item} (h : s.env.script = .pick p :: rest) :
    step s = .next (runPick p (dropItem s)) := by
  simp only [step, h]

end Sys2Proof.Machine
end

