-- ==== Sys2Proof/Laws/PerInstr.lean ====
section
/-! SUPPORT. A fact about every instruction as syntax, proved constructor by constructor: its code has the length of its
format (R90, R119). -/

namespace Sys2Proof.Laws.CodeLength

/-- How many bytes a number of the operand of WRITE_CLOCK takes (log 12). -/
def numberLength (v : Nat) : Nat := v / 255 + 1

/-- How many bytes an instruction of a format has: five of a frame (R91), one of every other, and the operand beside the
code of WRITE_CLOCK (log 12). -/
def lengthIn (i : Instr) : Option Format → Nat
  | none => 0
  | some (.sframe _) => 5
  | some .hostop =>
    match i with
    | .writeClock v =>
      1 + numberLength v.second + numberLength v.minute + numberLength v.hour + numberLength v.day +
        numberLength v.month + numberLength v.weekday + numberLength v.year
    | _ => 1
  | some _ => 1

/-- The code of the instruction has the length of its format, whatever the parameters. -/
def Statement (i : Instr) : Prop := ∀ p : Params, (encode p i).length = lengthIn i (formatOf i)

theorem encodeNumber_length (v : Nat) : (encodeNumber v).length = numberLength v := by
  simp [encodeNumber, numberLength]

theorem readSensor : Statement .readSensor := fun _ => rfl
theorem readClock : Statement .readClock := fun _ => rfl
theorem writeClock (v : ClockValue) : Statement (.writeClock v) := fun _ => by
  simp only [encode, clockOperandBytes, formatOf, lengthIn, List.flatMap_cons, List.flatMap_nil, List.length_cons,
    List.length_append, List.length_nil, encodeNumber_length]
  omega
theorem evPop : Statement .evPop := fun _ => rfl
theorem evWaitRead : Statement .evWaitRead := fun _ => rfl
theorem rotEnable (a b : Bool) : Statement (.rotEnable a b) := fun _ => rfl
theorem rotDisable : Statement .rotDisable := fun _ => rfl
theorem encEdge (a b : Bool) : Statement (.encEdge a b) := fun _ => rfl
theorem btnEdge (l : Bool) : Statement (.btnEdge l) := fun _ => rfl
theorem hostopReserved (op arg : Nibble) : Statement (.hostopReserved op arg) := fun _ => rfl
theorem waitLevel (v : Bool) : Statement (.waitLevel v) := fun _ => rfl
theorem sample : Statement .sample := fun _ => rfl
theorem rtcWriteByte (b : Byte) : Statement (.rtcWriteByte b) := fun _ => rfl
theorem rtcReadByte : Statement .rtcReadByte := fun _ => rfl
theorem rtcPair (cmd v : Byte) : Statement (.rtcPair cmd v) := fun _ => rfl
theorem burstRead : Statement .burstRead := fun _ => rfl
theorem evPush (e : PushEvent) : Statement (.evPush e) := fun _ => rfl
theorem cmdBurstRead : Statement .cmdBurstRead := fun _ => rfl
theorem cmdWrSeconds : Statement .cmdWrSeconds := fun _ => rfl
theorem cmdWrMinutes : Statement .cmdWrMinutes := fun _ => rfl
theorem cmdWrHours : Statement .cmdWrHours := fun _ => rfl
theorem cmdWrDay : Statement .cmdWrDay := fun _ => rfl
theorem cmdWrMonth : Statement .cmdWrMonth := fun _ => rfl
theorem cmdWrWeekday : Statement .cmdWrWeekday := fun _ => rfl
theorem cmdWrYear : Statement .cmdWrYear := fun _ => rfl
theorem cmdWrControl : Statement .cmdWrControl := fun _ => rfl
theorem wpOff : Statement .wpOff := fun _ => rfl
theorem wpOn : Statement .wpOn := fun _ => rfl
theorem rdataSeconds (t u : Nibble) : Statement (.rdataSeconds t u) := fun _ => rfl
theorem rdataMinutes (t u : Nibble) : Statement (.rdataMinutes t u) := fun _ => rfl
theorem rdataHours (t u : Nibble) : Statement (.rdataHours t u) := fun _ => rfl
theorem rdataDay (t u : Nibble) : Statement (.rdataDay t u) := fun _ => rfl
theorem rdataMonth (t u : Nibble) : Statement (.rdataMonth t u) := fun _ => rfl
theorem rdataWeekday (t u : Nibble) : Statement (.rdataWeekday t u) := fun _ => rfl
theorem rdataYear (t u : Nibble) : Statement (.rdataYear t u) := fun _ => rfl
theorem rdataControl (t u : Nibble) : Statement (.rdataControl t u) := fun _ => rfl
theorem sframeHumInt (b : Byte) : Statement (.sframeHumInt b) := fun _ => rfl
theorem sframeHumFrac (b : Byte) : Statement (.sframeHumFrac b) := fun _ => rfl
theorem sframeTempInt (b : Byte) : Statement (.sframeTempInt b) := fun _ => rfl
theorem sframeTempFrac (b : Byte) : Statement (.sframeTempFrac b) := fun _ => rfl
theorem sframeChecksum (b : Byte) : Statement (.sframeChecksum b) := fun _ => rfl
theorem q_00_00 : Statement .q_00_00 := fun _ => rfl
theorem q_00_01 : Statement .q_00_01 := fun _ => rfl
theorem q_00_10 : Statement .q_00_10 := fun _ => rfl
theorem q_00_11 : Statement .q_00_11 := fun _ => rfl
theorem q_01_00 : Statement .q_01_00 := fun _ => rfl
theorem q_01_01 : Statement .q_01_01 := fun _ => rfl
theorem q_01_10 : Statement .q_01_10 := fun _ => rfl
theorem q_01_11 : Statement .q_01_11 := fun _ => rfl
theorem q_10_00 : Statement .q_10_00 := fun _ => rfl
theorem q_10_01 : Statement .q_10_01 := fun _ => rfl
theorem q_10_10 : Statement .q_10_10 := fun _ => rfl
theorem q_10_11 : Statement .q_10_11 := fun _ => rfl
theorem q_11_00 : Statement .q_11_00 := fun _ => rfl
theorem q_11_01 : Statement .q_11_01 := fun _ => rfl
theorem q_11_10 : Statement .q_11_10 := fun _ => rfl
theorem q_11_11 : Statement .q_11_11 := fun _ => rfl
theorem evNone : Statement .evNone := fun _ => rfl
theorem evRotateCW : Statement .evRotateCW := fun _ => rfl
theorem evRotateCCW : Statement .evRotateCCW := fun _ => rfl
theorem evButtonDown : Statement .evButtonDown := fun _ => rfl
theorem evButtonUp : Statement .evButtonUp := fun _ => rfl
theorem lrecNone : Statement .lrecNone := fun _ => rfl
theorem lrecRotPlus : Statement .lrecRotPlus := fun _ => rfl
theorem lrecRotMinus : Statement .lrecRotMinus := fun _ => rfl
theorem lrecBtn : Statement .lrecBtn := fun _ => rfl
theorem errOK : Statement .errOK := fun _ => rfl
theorem errTimeout : Statement .errTimeout := fun _ => rfl
theorem errChecksumMismatch : Statement .errChecksumMismatch := fun _ => rfl
theorem errRangeError : Statement .errRangeError := fun _ => rfl
theorem errTransportError : Statement .errTransportError := fun _ => rfl

end Sys2Proof.Laws.CodeLength
end

