-- ==== Sys2Proof/Tests/Slice0.lean ====
section
/-! SUPPORT. The model's own tests: expected values are the spec's worked examples, or hand calculation from its rules; and
for every statement with hypotheses a witness that meets them. -/

namespace Sys2Proof.Tests

open Sys2Proof Sys2Proof.Machine

/-! ### Helpers -/

/-- The parameters of the worked examples: N_DETENT = 4, a pressed button reads 1. -/
def params : Params := { Params.standard with nDetent := 4, btnActive := true }

/-- Small durations in the proportions of a real sensor, so that a waveform can be evaluated. -/
def quick : Params :=
  { params with
    tWake := 10, tRel := 2, tHs := 3, tBitLow := 2, tBit0 := 1, tBit1 := 4, tSample := 2, tWaitBudget := 5,
    waitMaxIter := 5 }

def s0 : State := resetWith params

def q0 : State := resetWith quick

/-- The next state, if there is one. -/
def next? (o : Host.Outcome State Fault Refusal) : Option State :=
  match o with
  | .next t => some t
  | _ => none

/-- The refusal, if there is one. -/
def refusal? (o : Host.Outcome State Fault Refusal) : Option Refusal :=
  match o with
  | .refused r => some r
  | _ => none

/-- The decoder with the parameters of the worked examples, in which the codes are the defaults. -/
def dec (f : Format) (bytes : List Byte) : Except DecodeError (Instr × List Byte) := decode params f bytes

/-- What an instruction leaves, seen through `f`. -/
def seen {α : Type} (i : Instr) (s : State) (f : State → α) : Option α := (next? (exec i s)).map f

/-- The state with one answer of the sensor to come. -/
def answering (a : SensorAnswer) (s : State) : State := { s with env.sensorIn := [a] }

/-- The state with bytes of the RTC device to come. -/
def presenting (bs : List Byte) (s : State) : State := { s with env.rioIn := bs.flatMap lsbBits }

/-- The example frame of R150. -/
def frame150 : Vector Byte 5 := #v[0x23, 0x00, 0x15, 0x00, 0x38]

/-- The example bytes of R177. -/
def bytes177 : Vector Byte 8 := #v[0x56, 0x34, 0x12, 0x10, 0x11, 0x02, 0x26, 0x80]

/-- The example operand of R186. -/
def clock186 : ClockValue := ⟨56, 34, 12, 10, 11, 2, 26⟩

/-- The decoder enabled with the levels 00. -/
def enabled : State := { s0 with quad.rotEn := true, time := 2000 }

/-- The sensor engine at a position, holding the lock. -/
def sensorAt (q : SSeq) (s : State) : State := { s with sensor.seq := q, ctl.lock := .held .sensor, ctl.mask := true }

/-- The RTC engine at a position, holding the lock. -/
def rtcAt (q : CSeq) (s : State) : State := { s with rtc.seq := q, ctl.lock := .held .rtc }

/-- The RTC engine at a position whose data byte is due, its window open. -/
def dataDue (q : CSeq) (s : State) : State := { rtcAt q s with rtc.phase := .data .load, pins.rce := true }

/-- WRITE_CLOCK under way: in pair 3 the data byte is due, RIO still at the last bit of the command. -/
def midWrite : State :=
  { dataDue (.wPair 3) s0 with pins.rio := .drive1, rtc.wbuf := clock186 }

/-- WRITE_CLOCK under way: the clock is high in bit 2 of the command byte of pair 0. -/
def midBit : State :=
  { rtcAt (.wPair 0) s0 with
    rtc.phase := .command .high, rtc.bitcnt := 2, rtc.shift := 0x8E, rtc.wbuf := clock186, pins.rce := true,
    pins.rclk := true, pins.rio := .drive1 }

/-! ### Well-formedness -/

/-- A reserved code that R115 assigns is refused. -/
theorem test_wellFormed_refuses_assigned_reserved :
    wellFormed (.hostopReserved 1 0) = false ∧ wellFormed (.hostopReserved 8 3) = false ∧
    wellFormed (.hostopReserved 9 2) = true ∧ wellFormed (.hostopReserved 0 0) = true ∧
    wellFormed (.writeClock ⟨312, 0, 0, 1, 1, 1, 0⟩) = true := by decide

/-! ### Decoding: words from the tables of spec/30_encoding.md and 60_exceptions.md -/

theorem test_decode_hostop :
    dec .hostop [0b00010000] = .ok (.readSensor, []) ∧ dec .hostop [0b00100000] = .ok (.readClock, []) ∧
    dec .hostop [0b00110000, 56, 34, 12, 10, 11, 2, 26] = .ok (.writeClock clock186, []) ∧
    dec .hostop [0b01000000] = .ok (.evPop, []) ∧ dec .hostop [0b01010000] = .ok (.evWaitRead, []) ∧
    dec .hostop [0b01100010] = .ok (.rotEnable true false, []) ∧ dec .hostop [0b01110000] = .ok (.rotDisable, []) ∧
    dec .hostop [0b10000001] = .ok (.encEdge false true, []) ∧ dec .hostop [0b10010001] = .ok (.btnEdge true, []) ∧
    dec .hostop [0b10000100] = .ok (.hostopReserved 8 4, []) :=
  ⟨rfl, rfl, rfl, rfl, rfl, rfl, rfl, rfl, rfl, rfl⟩

/-- An operand of WRITE_CLOCK is carried whole, whatever its size: 312 is 255 and 57, 255 is 255 and 0 (R281, log 12). -/
theorem test_decode_wide_operand :
    dec .hostop (0x30 :: [0xFF, 57, 0xFF, 0, 12, 10, 11, 2, 26]) = .ok (.writeClock ⟨312, 255, 12, 10, 11, 2, 26⟩, []) ∧
    encode params (.writeClock ⟨312, 255, 12, 10, 11, 2, 26⟩) = 0x30 :: [0xFF, 57, 0xFF, 0, 12, 10, 11, 2, 26] ∧
    dec .hostop [0x30, 1, 2, 3, 4, 5, 6, 0xFF] = .error .missingOperand :=
  ⟨rfl, rfl, rfl⟩

/-- A changed parameter changes the byte that is read and sent (R6, R101, R102). -/
theorem test_decode_changed_parameter :
    decode { params with cmdWrYear := 0x9C } .rcmd [0x9C] = .ok (.cmdWrYear, []) ∧
    decode { params with cmdWrYear := 0x9C } .rcmd [0x8C] = .error .unknownCommand ∧
    decode { params with wpOff := 0x11 } (.wp false) [0x11] = .ok (.wpOff, []) ∧
    encode { params with wpOff := 0x11 } .wpOff = [0x11] :=
  ⟨rfl, rfl, rfl, rfl⟩

theorem test_decode_command :
    dec .rcmd [0b10111111] = .ok (.cmdBurstRead, []) ∧ dec .rcmd [0b10000000] = .ok (.cmdWrSeconds, []) ∧
    dec .rcmd [0b10000010] = .ok (.cmdWrMinutes, []) ∧ dec .rcmd [0b10000100] = .ok (.cmdWrHours, []) ∧
    dec .rcmd [0b10000110] = .ok (.cmdWrDay, []) ∧ dec .rcmd [0b10001000] = .ok (.cmdWrMonth, []) ∧
    dec .rcmd [0b10001010] = .ok (.cmdWrWeekday, []) ∧ dec .rcmd [0b10001100] = .ok (.cmdWrYear, []) ∧
    dec .rcmd [0b10001110] = .ok (.cmdWrControl, []) ∧ dec .rcmd [0b10001111] = .error .unknownCommand :=
  ⟨rfl, rfl, rfl, rfl, rfl, rfl, rfl, rfl, rfl, rfl⟩

theorem test_decode_data :
    dec (.wp false) [0b00000000] = .ok (.wpOff, []) ∧ dec (.wp true) [0b10000000] = .ok (.wpOn, []) ∧
    dec (.rdata 0) [0b01010110] = .ok (.rdataSeconds 5 6, []) ∧
    dec (.rdata 1) [0b00110100] = .ok (.rdataMinutes 3 4, []) ∧
    dec (.rdata 2) [0b10110001] = .ok (.rdataHours 11 1, []) ∧
    dec (.rdata 3) [0b00010000] = .ok (.rdataDay 1 0, []) ∧ dec (.rdata 4) [0b00010001] = .ok (.rdataMonth 1 1, []) ∧
    dec (.rdata 5) [0b00000010] = .ok (.rdataWeekday 0 2, []) ∧
    dec (.rdata 6) [0b00100110] = .ok (.rdataYear 2 6, []) ∧
    dec (.rdata 7) [0b10000000] = .ok (.rdataControl 8 0, []) :=
  ⟨rfl, rfl, rfl, rfl, rfl, rfl, rfl, rfl, rfl, rfl⟩

/-- The frame of R150 in the order of arrival, byte 0 first. -/
theorem test_decode_frame :
    let f : List Byte := [0b00100011, 0b00000000, 0b00010101, 0b00000000, 0b00111000]
    dec (.sframe 0) f = .ok (.sframeHumInt 35, []) ∧ dec (.sframe 1) f = .ok (.sframeHumFrac 0, []) ∧
    dec (.sframe 2) f = .ok (.sframeTempInt 21, []) ∧ dec (.sframe 3) f = .ok (.sframeTempFrac 0, []) ∧
    dec (.sframe 4) f = .ok (.sframeChecksum 56, []) :=
  ⟨rfl, rfl, rfl, rfl, rfl⟩

theorem test_decode_transition :
    dec .qidx [0b0000] = .ok (.q_00_00, []) ∧ dec .qidx [0b0001] = .ok (.q_00_01, []) ∧
    dec .qidx [0b0010] = .ok (.q_00_10, []) ∧ dec .qidx [0b0011] = .ok (.q_00_11, []) ∧
    dec .qidx [0b0100] = .ok (.q_01_00, []) ∧ dec .qidx [0b0101] = .ok (.q_01_01, []) ∧
    dec .qidx [0b0110] = .ok (.q_01_10, []) ∧ dec .qidx [0b0111] = .ok (.q_01_11, []) ∧
    dec .qidx [0b1000] = .ok (.q_10_00, []) ∧ dec .qidx [0b1001] = .ok (.q_10_01, []) ∧
    dec .qidx [0b1010] = .ok (.q_10_10, []) ∧ dec .qidx [0b1011] = .ok (.q_10_11, []) ∧
    dec .qidx [0b1100] = .ok (.q_11_00, []) ∧ dec .qidx [0b1101] = .ok (.q_11_01, []) ∧
    dec .qidx [0b1110] = .ok (.q_11_10, []) ∧ dec .qidx [0b1111] = .ok (.q_11_11, []) :=
  ⟨rfl, rfl, rfl, rfl, rfl, rfl, rfl, rfl, rfl, rfl, rfl, rfl, rfl, rfl, rfl, rfl⟩

theorem test_decode_event_record_result :
    dec .evcode [0b000] = .ok (.evNone, []) ∧ dec .evcode [0b001] = .ok (.evRotateCW, []) ∧
    dec .evcode [0b010] = .ok (.evRotateCCW, []) ∧ dec .evcode [0b011] = .ok (.evButtonDown, []) ∧
    dec .evcode [0b100] = .ok (.evButtonUp, []) ∧ dec .evcode [0b101] = .error .reservedEvent ∧
    dec .lrec [0b000] = .ok (.lrecNone, []) ∧ dec .lrec [0b010] = .ok (.lrecRotPlus, []) ∧
    dec .lrec [0b011] = .ok (.lrecRotMinus, []) ∧ dec .lrec [0b100] = .ok (.lrecBtn, []) ∧
    dec .lrec [0b001] = .ok (.lrecNone, []) ∧ dec .lrec [0b101] = .ok (.lrecBtn, []) ∧
    dec .lrec [0b110] = .error .reservedRecord ∧
    dec .errcode [0b000] = .ok (.errOK, []) ∧ dec .errcode [0b001] = .ok (.errTimeout, []) ∧
    dec .errcode [0b010] = .ok (.errChecksumMismatch, []) ∧ dec .errcode [0b011] = .ok (.errRangeError, []) ∧
    dec .errcode [0b100] = .ok (.errTransportError, []) ∧ dec .errcode [0b111] = .error .reservedResult :=
  ⟨rfl, rfl, rfl, rfl, rfl, rfl, rfl, rfl, rfl, rfl, rfl, rfl, rfl, rfl, rfl, rfl, rfl, rfl, rfl⟩

/-- Words of the opcode table: a HOSTOP code, a command, a transition index, a frame. -/
theorem test_table_words :
    decodeTableWord 8 0x10 = some .readSensor ∧ decodeTableWord 8 0xBF = some .cmdBurstRead ∧
    decodeTableWord 8 0x0E = some .q_11_10 ∧ decodeTableWord 40 0x2300150038 = some (.sframeHumInt 0x23) := by decide

/-! ### Values -/

/-- Corner values of R263. -/
theorem test_bcd_corners :
    [0x00, 0x59, 0x60, 0x99, 0x0A, 0xA0, 0xFF].map bcdDec = [0, 59, 60, 99, 10, 100, 165] ∧
    [0, 9, 10, 59, 99].map bcdEnc = [0x00, 0x09, 0x10, 0x59, 0x99] := by decide

/-- The hours bytes of R176. -/
theorem test_hour_bytes :
    [0x8C, 0xAC, 0xA7, 0xB1, 0x80, 0x93, 0x24].map (hourDec .reconstruct) =
      [some 0, some 12, some 19, some 23, none, none, some 24] ∧
    [0x8C, 0x23].map (hourDec .reject) = [none, some 23] := by decide

/-- The extreme frames of R147 are good. -/
theorem test_checksum_extremes :
    checksumGood #v[0, 0, 0, 0, 0] = true ∧ checksumGood #v[0xFF, 0xFF, 0xFF, 0xFF, 0xFC] = true ∧
    checksumGood #v[0x80, 0x80, 0x80, 0x80, 0x00] = true := by decide

/-! ### The sensor -/

/-- R150: temperature 21, humidity 35. -/
theorem test_readSensor_example :
    seen .readSensor (answering (.frame frame150) s0) (fun t =>
      (t.sensor.valid, t.sensor.temperature, t.sensor.humidity, t.ctl.lock)) = some (true, 21, 35, .free) := by decide

/-- A timeout at step 25 is reported as such, with the mask cleared (R130, R134). -/
theorem test_readSensor_timeout :
    seen .readSensor (answering (.timeoutAt 25) s0) (fun t =>
      (t.sensor.valid, t.sensor.serr, t.sensor.serrStep, t.ctl.mask)) = some (false, .timeout, 25, false) := by decide

/-- The waveform of a conforming sensor carries the frame (R63, R139). -/
theorem test_transfer_conforming : transfer quick (conformingWave quick 1 frame150) = .frame frame150 := by decide

/-- A level found at the last poll of the budget is ok, one poll later is not (R140). -/
theorem test_waitLevel_budget :
    seen (.waitLevel false) (answering (.wave [(true, 5), (false, 9)]) q0) (fun t => (t.aux.waitOk, t.time)) = some (true, 5) ∧
    seen (.waitLevel false) (answering (.wave [(true, 6), (false, 9)]) q0) (fun t => (t.aux.waitOk, t.time)) =
      some (false, 5) := by decide

/-- The sample is taken at the delay: a high phase that ends just then reads 0 (R137, R144). -/
theorem test_sample_at_delay :
    seen .sample (answering (.wave [(true, 2), (false, 9)]) q0) (fun t => (t.aux.sampled, t.time)) = some (false, 2) ∧
    seen .sample (answering (.wave [(true, 3), (false, 9)]) q0) (fun t => t.aux.sampled) = some true := by decide

/-- A frame byte fills its byte of FRAME, most significant bit first (R92). -/
theorem test_sframe_bytes :
    seen (.sframeHumInt 0x23) (sensorAt (.bitHi 0) s0) (fun t => (t.sensor.frame[0], t.sensor.seq)) =
      some (0x23, .bitHi 8) ∧
    seen (.sframeHumFrac 1) (sensorAt (.bitHi 8) s0) (fun t => (t.sensor.frame[1], t.sensor.bitcnt)) = some (1, 16) ∧
    seen (.sframeTempInt 0x15) (sensorAt (.bitHi 16) s0) (fun t => t.sensor.frame[2]) = some 0x15 ∧
    seen (.sframeTempFrac 0x80) (sensorAt (.bitHi 24) s0) (fun t => t.sensor.frame[3]) = some 0x80 ∧
    seen (.sframeChecksum 0x38) (sensorAt (.bitHi 32) s0) (fun t => (t.sensor.frame[4], t.sensor.seq, t.ctl.mask)) =
      some (0x38, .check, false) := by decide

/-- The result codes end a read (R141, R142, R292). -/
theorem test_sensor_results :
    seen .errTimeout (answering (.timeoutAt 2) (sensorAt .hs2 s0)) (fun t => (t.sensor.serr.code, t.sensor.serrStep)) =
      some (1, 2) ∧
    seen .errChecksumMismatch { sensorAt .check s0 with sensor.frame := #v[0x22, 0, 0x15, 0, 0x38] }
      (fun t => (t.sensor.serr.code, t.sensor.valid, t.ctl.lock)) = some (2, false, .free) ∧
    seen .errOK { sensorAt .check s0 with sensor.frame := frame150 }
      (fun t => (t.sensor.valid, t.sensor.temperature, t.sensor.humidity)) = some (true, 21, 35) := by decide

/-- OK ends WRITE_CLOCK after its ninth pair (R183, R291). -/
theorem test_errOK_ends_write :
    seen .errOK { rtcAt (.wPair 8) s0 with rtc.phase := .finish, rtc.cerr := .rangeError }
      (fun t => (t.rtc.cerr.code, t.rtc.seq, t.ctl.lock)) = some (0, .idle, .free) := by decide

/-! ### The RTC engine -/

/-- 0xBF goes out as 1,1,1,1,1,1,0,1 (R163). -/
theorem test_rtcWriteByte_bits :
    seen (.rtcWriteByte 0xBF) s0 (fun t => (t.trace.rioLog, t.time)) =
      some ([true, true, true, true, true, true, false, true], 16) := by decide

/-- 0x56 arrives as 0,1,1,0,1,0,1,0 (R177). -/
theorem test_rtcReadByte_bits :
    seen .rtcReadByte { s0 with env.rioIn := [false, true, true, false, true, false, true, false] } (fun t => t.rtc.shift) =
      some 0x56 := by decide

theorem test_rtcPair_history :
    seen (.rtcPair 0x8E 0x00) s0 (fun t => (t.trace.history, t.pins.rce, t.pins.rio)) =
      some ([.memWrite 0x8E 0x00], false, .input) := by decide

theorem test_burstRead_bytes :
    seen .burstRead (presenting bytes177.toList s0) (fun t => (t.rtc.cbuf, t.trace.history)) =
      some (bytes177, [.memRead 0xBF bytes177]) := by decide +kernel

/-- R177. -/
theorem test_readClock_example :
    seen .readClock (presenting bytes177.toList s0) (fun t => (t.rtc.valid, t.rtc.clock, t.ctl.lock)) =
      some (true, clock186, .free) := by decide +kernel

/-- Seconds byte 0x5A decodes to 60 (R176). -/
theorem test_readClock_range :
    seen .readClock (presenting [0x5A, 0, 0, 1, 1, 1, 0, 0] s0) (fun t => (t.rtc.valid, t.rtc.cerr, t.ctl.lock)) =
      some (false, .rangeError, .free) := by decide +kernel

/-- R186. -/
theorem test_writeClock_example :
    seen (.writeClock clock186) s0 (fun t => (t.rtc.cerr, t.trace.history)) =
      some (.ok, [.memWrite 0x8E 0x00, .memWrite 0x80 0x56, .memWrite 0x82 0x34, .memWrite 0x84 0x12, .memWrite 0x86 0x10,
        .memWrite 0x88 0x11, .memWrite 0x8A 0x02, .memWrite 0x8C 0x26, .memWrite 0x8E 0x80]) := by decide +kernel

/-- Month 13 and day 0 are refused with nothing sent; 31 February is sent as it is (R185). -/
theorem test_writeClock_range :
    seen (.writeClock ⟨0, 0, 0, 1, 13, 1, 0⟩) s0 (fun t => (t.rtc.cerr, t.trace.history)) = some (.rangeError, []) ∧
    seen (.writeClock ⟨0, 0, 0, 0, 1, 1, 0⟩) s0 (fun t => t.rtc.cerr) = some .rangeError ∧
    seen (.writeClock ⟨0, 0, 0, 31, 2, 1, 0⟩) s0 (fun t => (t.rtc.cerr, t.trace.history.length)) = some (.ok, 9) := by
  decide +kernel

/-- The command and data codes in a write: the control pair and the seconds pair of R186. -/
theorem test_write_codes :
    seen .cmdWrControl (rtcAt (.wPair 0) s0) (fun t => (t.pins.rce, t.rtc.shift)) = some (true, 0x8E) ∧
    seen .wpOff (dataDue (.wPair 0) s0) (fun t => (t.rtc.seq, t.trace.history)) =
      some (.wPair 1, [.memWrite 0x8E 0x00]) ∧
    seen .cmdWrSeconds (rtcAt (.wPair 1) s0) (fun t => t.rtc.shift) = some 0x80 ∧
    seen (.rdataSeconds 5 6) { dataDue (.wPair 1) s0 with rtc.wbuf := clock186 }
      (fun t => (t.rtc.seq, t.trace.history)) = some (.wPair 2, [.memWrite 0x80 0x56]) ∧
    seen .wpOn (dataDue (.wPair 8) s0) (fun t => (t.rtc.seq, t.rtc.cerr, t.ctl.lock)) =
      some (.idle, .ok, .free) := by decide

/-- The other command codes send their byte. -/
theorem test_write_commands :
    seen .cmdWrMinutes (rtcAt (.wPair 2) s0) (fun t => t.rtc.shift) = some 0x82 ∧
    seen .cmdWrHours (rtcAt (.wPair 3) s0) (fun t => t.rtc.shift) = some 0x84 ∧
    seen .cmdWrDay (rtcAt (.wPair 4) s0) (fun t => t.rtc.shift) = some 0x86 ∧
    seen .cmdWrMonth (rtcAt (.wPair 5) s0) (fun t => t.rtc.shift) = some 0x88 ∧
    seen .cmdWrWeekday (rtcAt (.wPair 6) s0) (fun t => t.rtc.shift) = some 0x8A ∧
    seen .cmdWrYear (rtcAt (.wPair 7) s0) (fun t => t.rtc.shift) = some 0x8C := by decide

/-- The codes of a read: the command releases RIO (R167), a byte goes to its place in CBUF, the last frees the lock. -/
theorem test_read_codes :
    seen .cmdBurstRead (rtcAt .rCmd s0) (fun t => (t.rtc.seq, t.pins.rio)) =
      some (.rData 0, .input) ∧
    seen (.rdataMinutes 3 4) (dataDue (.rData 1) s0) (fun t => (t.rtc.cbuf[1], t.rtc.seq)) =
      some (0x34, .rData 2) ∧
    seen (.rdataHours 1 2) (dataDue (.rData 2) s0) (fun t => t.rtc.cbuf[2]) = some 0x12 ∧
    seen (.rdataDay 1 0) (dataDue (.rData 3) s0) (fun t => t.rtc.cbuf[3]) = some 0x10 ∧
    seen (.rdataMonth 1 1) (dataDue (.rData 4) s0) (fun t => t.rtc.cbuf[4]) = some 0x11 ∧
    seen (.rdataWeekday 0 2) (dataDue (.rData 5) s0) (fun t => t.rtc.cbuf[5]) = some 0x02 ∧
    seen (.rdataYear 2 6) (dataDue (.rData 6) s0) (fun t => t.rtc.cbuf[6]) = some 0x26 ∧
    seen (.rdataControl 8 0) (dataDue (.rData 7) s0)
      (fun t => (t.rtc.cbuf[7], t.rtc.seq, t.ctl.lock, t.pins.rce)) = some (0x80, .rDecode, .free, false) := by decide

/-- The result code of an operand out of range (R181), met at W_CHECK. -/
theorem test_range_code :
    seen .errRangeError { s0 with rtc.seq := .wCheck, rtc.wbuf := ⟨60, 0, 0, 1, 1, 1, 0⟩ }
      (fun t => (t.rtc.cerr.code, t.rtc.seq)) = some (3, .idle) := by decide

/-! ### The decoders -/

/-- The fourth event of the example of R201. -/
theorem test_encEdge_detent :
    seen (.encEdge false false) { enabled with quad := { prev := 1, acc := 3, last := some 6000, rotEn := true }, time := 8000 }
      (fun t => (t.quad, t.chan.slot)) = some ({ prev := 0, acc := 0, last := some 8000, rotEn := true }, .rotateCW) := by
  decide

/-- The boundary of the filter (R214): 999 after the last accepted interrupt discards, 1000 accepts. -/
theorem test_encEdge_filter :
    seen (.encEdge true true) { enabled with quad := { prev := 2, acc := 1, last := some 0, rotEn := true }, time := 999 }
      (fun t => (t.quad.acc, t.quad.prev)) = some (1, 2) ∧
    seen (.encEdge true true) { enabled with quad := { prev := 2, acc := 1, last := some 0, rotEn := true }, time := 1000 }
      (fun t => (t.quad.acc, t.quad.prev)) = some (2, 3) := by decide

/-- ROT_ENABLE 1 1 (R210). -/
theorem test_rotEnable_example :
    seen (.rotEnable true true) s0 (fun t => t.quad) = some { prev := 3, acc := 0, last := none, rotEn := true } := by decide

/-- ROT_DISABLE with a count of 3 (R212). -/
theorem test_rotDisable_example :
    seen .rotDisable { enabled with quad.acc := 3 } (fun t => (t.quad.acc, t.quad.rotEn)) = some (3, false) := by decide

/-- The clockwise and the counter-clockwise codes from each state move the count by +1 and -1 (R110). -/
theorem test_table_codes :
    [Instr.q_00_10, .q_00_01, .q_00_00, .q_00_11].map (fun i => seen i enabled (fun t => (t.quad.acc, t.quad.prev))) =
      [some (1, 2), some (-1, 1), some (0, 0), some (0, 3)] ∧
    [Instr.q_01_00, .q_01_11, .q_01_01, .q_01_10].map
      (fun i => seen i { enabled with quad.prev := 1 } (fun t => (t.quad.acc, t.quad.prev))) =
      [some (1, 0), some (-1, 3), some (0, 1), some (0, 2)] ∧
    [Instr.q_10_11, .q_10_00, .q_10_10, .q_10_01].map
      (fun i => seen i { enabled with quad.prev := 2 } (fun t => (t.quad.acc, t.quad.prev))) =
      [some (1, 3), some (-1, 0), some (0, 2), some (0, 1)] ∧
    [Instr.q_11_01, .q_11_10, .q_11_11, .q_11_00].map
      (fun i => seen i { enabled with quad.prev := 3 } (fun t => (t.quad.acc, t.quad.prev))) =
      [some (1, 1), some (-1, 2), some (0, 3), some (0, 0)] := by decide

/-- A press at 130000 after one at 100000 is accepted, one at 129999 is not (R239). -/
theorem test_btnEdge_window :
    seen (.btnEdge true) { s0 with button := { latch := false, last := some 100000 }, time := 130000 }
      (fun t => (t.button.last, t.chan.slot)) = some (some 130000, .buttonDown) ∧
    seen (.btnEdge true) { s0 with button := { latch := false, last := some 100000 }, time := 129999 }
      (fun t => (t.button.latch, t.chan.slot)) = some (false, .none) := by decide

/-- A release clears the latch whatever the time (R232). -/
theorem test_btnEdge_release :
    seen (.btnEdge false) { s0 with button := { latch := true, last := some 100000 }, time := 100001 }
      (fun t => (t.button.latch, t.button.last, t.chan.slot)) = some (false, some 100000, .buttonUp) := by decide

/-! ### The event channel -/

/-- R251: the ButtonDown is lost. -/
theorem test_evPush_overwrites :
    seen (.evPush .rotateCW) { s0 with chan.slot := .buttonDown } (fun t => (t.chan.slot, t.chan.avail)) =
      some (.rotateCW, true) := by decide

/-- R252. -/
theorem test_evPop_example :
    seen .evPop { s0 with chan.slot := .rotateCW } (fun t => (t.chan.slot, t.trace.history)) =
      some (.none, [.pop .rotateCW]) := by decide

/-- R254: the record (Rot, -1), and then the caller blocks. -/
theorem test_evWaitRead_example :
    seen .evWaitRead { s0 with chan := { slot := .none, record := ⟨.rot, true⟩, avail := true } }
      (fun t => (t.trace.history, t.chan.avail)) = some ([.waitRead ⟨.rot, true⟩], false) ∧
    seen .evWaitRead s0 (fun t => t.ctl.readers) = some 1 := by decide

/-- An event code delivers the slot's event once, and no other (R252, R255). -/
theorem test_event_codes :
    [Instr.evNone, .evRotateCW, .evRotateCCW, .evButtonDown, .evButtonUp].map
      (fun i => seen i { s0 with chan.slot := .rotateCW } (fun t => (t.chan.slot, t.trace.history))) =
      [some (.rotateCW, []), some (.none, [.pop .rotateCW]), some (.rotateCW, []), some (.rotateCW, []),
        some (.rotateCW, [])] := by decide

/-- A record code takes the record where it is that one, and none where there is none (R113, R254). -/
theorem test_record_codes :
    [Instr.lrecNone, .lrecRotPlus, .lrecRotMinus, .lrecBtn].map
      (fun i => seen i { s0 with chan := { slot := .none, record := ⟨.btn, false⟩, avail := true } }
        (fun t => (recordText t.chan.record, t.chan.avail))) =
      [some ("BTN", true), some ("BTN", true), some ("BTN", true), some ("NONE", false)] ∧
    [Instr.lrecNone, .lrecRotPlus].map (fun i => seen i s0 (fun t => t.trace.history)) = [some [], some []] := by
  decide

/-! ### Stops and steps -/

theorem test_refusals :
    refusal? (exec (.hostopReserved 10 0) s0) = some (.reservedCode 10 0) ∧
    refusal? (exec .errTransportError s0) = some .transportErrorOutsideBlock ∧
    refusal? (exec .readClock { s0 with ctl.ctx := .interrupt }) = some .busOperationFromHandler ∧
    refusal? (exec .wpOn { s0 with ctl.ctx := .interrupt }) = some .busOperationFromHandler ∧
    refusal? (step { s0 with env.script := [.line { plainLine 5 .hostop [0x82] with time := none }] }) =
      some .edgeLineWithoutTime := by decide

/-- The word 0x10 of the table runs as the first instruction after reset: with no sensor, Timeout(1) (R143). -/
theorem test_first_word : (next? (step (s0.withFetchWord 8 0x10))).map (fun t => (t.sensor.serr, t.sensor.serrStep)) =
    some (.timeout, 1) := by decide +kernel

/-- Handler steps between the micro-steps of an issued operation: an edge later than `T_WAKE_US` is served while the line
is low in a longer `WAKE` (R71, R132). -/
theorem test_edge_during_wake :
    (next? (step { sensorAt .wake enabled with ctl.mask := false, env.script := [.line (encLine params 50000 true false)] })).map
      (fun t => (t.sensor.seq, t.quad.acc, t.time)) = some (.wake, 1, 50000) := by decide

/-- An edge in the middle of a bit: the handler runs while RCLK is high, and the half-bit goes on after it (R187). -/
theorem test_edge_inside_a_bit :
    (next? (step { midBit with quad.rotEn := true, env.script := [.line (encLine params 3 true false)] })).map
      (fun t => (t.pins.rclk, t.quad.acc, t.time, (rtcTick t).time, (rtcTick (rtcTick t)).pins.rclk, t.rtc.bitcnt)) =
      some (true, 1, 3, 4, false, 2) := by decide

/-- In the critical section the sensor engine is not preempted: EV_POP waits, and so does an edge that comes after the
engine's next micro-step (R134, R308). -/
theorem test_critical_section :
    (next? (step { sensorAt .hs1 q0 with env.script := [.line (plainLine 0 .hostop [0x40])] })).map
      (fun t => (t.sensor.seq, t.env.script.length)) = some (.idle, 1) ∧
    (next? (step { answering (.frame frame150) (sensorAt .hs1 s0) with
      env.script := [.line (encLine params 10 true false)] })).map (fun t => (t.sensor.seq, t.pins.encA)) =
      some (.hs2, false) := by decide

/-- STEP_CW after an edge that the filter discarded goes from the raw state that is still current (R117, R203). -/
theorem test_step_from_current_state :
    (next? (step { enabled with quad := { prev := 2, acc := 0, last := some 0, rotEn := true }, pins.encA := false,
                                env.script := [.stepEdge 2500 true] })).map
      (fun t => (t.quad.prev, t.quad.acc, t.pins.encA, t.pins.encB)) = some (3, 1, true, true) ∧
    (detentItems params false 100 5).length = 4 := by decide

/-- Any waiter may get the freed lock: a READ_CLOCK before the WRITE_CLOCK that waits at W_CHECK (R70). -/
theorem test_any_waiter_first :
    (fun t : State => (t.rtc.seq, t.ctl.lock, t.ctl.waiting))
      (runPick (.grant 0) { s0 with rtc.seq := .wCheck, rtc.wbuf := clock186, ctl.waiting := [.readClock] }) =
      (.rCmd, .held .rtc, [.writeClock clock186]) := by decide

/-! ### Witnesses: a state and operands that meet each statement's hypotheses, clause by clause -/

/-- A line that is the whole script. -/
def lineAt (f : Format) (bytes : List Byte) (s : State) : State :=
  { s with env.script := [.line (plainLine s.time f bytes)] }

/-- A line that only issues its operation, at once. -/
def issued (bytes : List Byte) : Line := { plainLine 0 .hostop bytes with mode := .issue }

/-- Such a line is the whole script. -/
def issueAt (bytes : List Byte) (s : State) : State :=
  { s with env.script := [.line (issued bytes)] }

/-- A record to read, and a line that reads it. -/
def withRecord : State :=
  lineAt .hostop [0x50] { s0 with chan := { slot := .rotateCW, record := ⟨.rot, false⟩, avail := true } }

theorem witness_inv_midWrite : Inv midWrite where
  lock_sensor := by decide
  lock_rtc := by decide
  mask_critical := rfl
  sdata_drive := rfl
  rtc_phase := rfl
  rce_window := rfl
  rclk_pulse := rfl
  rio_released := fun h => nomatch h
  byte_counted := fun _ _ h => nomatch h
  turn_last := fun _ h => nomatch h
  bits_counted := fun _ h => nomatch h
  acc_inside := by decide
  quad_last := fun _ h => nomatch h
  button_last := fun _ h => nomatch h
  avail_record := by decide
  record_dir := by decide
  serr_codes := .inl rfl
  serr_step := ⟨fun h => (by cases h), fun _ => rfl⟩
  cerr_codes := .inl rfl
  clock_range := fun h => nomatch h
  write_range := fun _ => by decide
  task_context := rfl

theorem witness_inv_midBit : Inv midBit where
  lock_sensor := by decide
  lock_rtc := by decide
  mask_critical := rfl
  sdata_drive := rfl
  rtc_phase := rfl
  rce_window := rfl
  rclk_pulse := rfl
  rio_released := fun h => nomatch h
  byte_counted := fun _ _ h => by cases h; exact ⟨by decide, fun _ _ h => by cases h; rfl⟩
  turn_last := fun _ h => nomatch h
  bits_counted := fun _ h => nomatch h
  acc_inside := by decide
  quad_last := fun _ h => nomatch h
  button_last := fun _ h => nomatch h
  avail_record := by decide
  record_dir := by decide
  serr_codes := .inl rfl
  serr_step := ⟨fun h => (by cases h), fun _ => rfl⟩
  cerr_codes := .inl rfl
  clock_range := fun h => nomatch h
  write_range := fun _ => by decide
  task_context := rfl

theorem witness_inv_withRecord : Inv withRecord where
  lock_sensor := by decide
  lock_rtc := by decide
  mask_critical := rfl
  sdata_drive := rfl
  rtc_phase := rfl
  rce_window := rfl
  rclk_pulse := rfl
  rio_released := fun _ => rfl
  byte_counted := fun _ _ h => nomatch h
  turn_last := fun _ h => nomatch h
  bits_counted := fun _ h => nomatch h
  acc_inside := by decide
  quad_last := fun _ h => nomatch h
  button_last := fun _ h => nomatch h
  avail_record := by decide
  record_dir := by decide
  serr_codes := .inl rfl
  serr_step := ⟨fun h => (by cases h), fun _ => rfl⟩
  cerr_codes := .inl rfl
  clock_range := fun h => nomatch h
  write_range := fun h => by rcases h with h | ⟨_, h⟩ <;> cases h
  task_context := rfl

theorem witness_quiet : Quiet (presenting bytes177.toList s0) := ⟨rfl, rfl, rfl, rfl, rfl, rfl, rfl⟩

theorem witness_accepts : Accepts { enabled with quad.last := some 1000 } :=
  ⟨rfl, rfl, fun t h => by cases h; decide⟩

theorem witness_DecodeEncodeRoundTrip :
    params.commands.Nodup ∧ wellFormed (.writeClock ⟨312, 34, 12, 10, 11, 2, 26⟩) = true ∧
    formatOf (.writeClock ⟨312, 34, 12, 10, 11, 2, 26⟩) = some .hostop := by decide

theorem witness_DecodedCodeIsTheCodeRead :
    (∀ n, Format.hostop ≠ .sframe n) ∧ dec .hostop [0x83] = .ok (.encEdge true true, []) ∧
    (∀ n, Format.lrec ≠ .sframe n) ∧ dec .lrec [0b101, 0x83] = .ok (.lrecBtn, [0x83]) := ⟨by decide, rfl, by decide, rfl⟩

theorem witness_HostopCodesAsNumbered :
    (0xFF : Byte) ∉ [56, 34, 12, 10, 11, 2, (254 : Byte)] ∧
    [(0, 0), (10, 0), (1, 1), (7, 1), (6, 4), (8, 4), (9, 2)].all
      (fun q : Nat × Nat => !hostopAssigned (BitVec.ofNat 4 q.1) (BitVec.ofNat 4 q.2)) = true := by decide

theorem witness_ReservedCodesAndTimelessEdgesAreRefused :
    (lineAt .hostop [byteOf 9 2] s0).env.script = [.line (plainLine 0 .hostop [byteOf 9 2])] ∧
    heldBack (plainLine 0 .hostop [byteOf 9 2]) (.hostopReserved 9 2) s0 = false ∧ hostopAssigned 9 2 = false ∧
    5 ≤ (5 : Byte).toNat ∧ (7 : Byte).toNat ≤ 7 ∧ 6 ≤ (6 : Byte).toNat ∧ 0x80 ≤ (0x80 : Byte).toNat ∧
    { plainLine 0 .hostop [0x80] with time := none }.time = none := by decide

theorem witness_StepRunsDecodedInstruction :
    (lineAt .hostop [0x70] s0).env.script = [.line (plainLine 0 .hostop [0x70])] ∧
    heldBack (plainLine 0 .hostop [0x70]) .rotDisable (lineAt .hostop [0x70] s0) = false ∧
    heldBack (plainLine 0 .hostop [0x70]) .rotDisable (sensorAt .hs1 s0) = true ∧
    decode s0.cfg .hostop [0x70] = .ok (.rotDisable, []) ∧ needsTime .rotDisable = false ∧
    tableFormat s0.cfg 8 0x70 = some .hostop ∧
    decode s0.cfg .hostop (tableBytes 8 0x70) = .ok (.rotDisable, [0, 0, 0, 0, 0, 0, 0]) ∧
    wellFormed .rotDisable = true ∧ heldBack (stepLine 7 true s0) (.encEdge true false) s0 = false :=
  ⟨rfl, rfl, rfl, rfl, rfl, rfl, rfl, rfl, rfl⟩

/-- Every branch: from an idle block, with the lock held, and with a WRITE_CLOCK at W_CHECK. -/
theorem witness_IssuedBusOperationBegins :
    (issueAt [0x10] s0).env.script = [.line (issued [0x10])] ∧ (issued [0x10]).mode = .issue ∧ (issued [0x10]).ctx = .task ∧
    decode s0.cfg .hostop [0x10] = .ok (.readSensor, []) ∧ heldBack (issued [0x10]) .readSensor s0 = false ∧
    decode s0.cfg .hostop [0x20] = .ok (.readClock, []) ∧ heldBack (issued [0x20]) .readClock s0 = false ∧
    decode s0.cfg .hostop (encode params (.writeClock clock186)) = .ok (.writeClock clock186, []) ∧
    inRange clock186 = true ∧ inRange ⟨60, 0, 0, 1, 1, 1, 0⟩ = false ∧
    heldBack (issued [0x20]) .readClock { sensorAt .wake s0 with ctl.mask := false } = false ∧
    heldBack (issued [0x20]) .readClock { s0 with rtc.seq := .wCheck } = false ∧
    heldBack (issued [0x20]) (.writeClock clock186) (rtcAt (.rData 3) s0) = false :=
  ⟨rfl, rfl, rfl, rfl, rfl, rfl, rfl, rfl, rfl, rfl, rfl, rfl, rfl⟩

theorem witness_StepKeepsInvariant :
    (Inv midWrite ∧ ∃ t, step midWrite = .next t ∧ t ≠ midWrite) ∧
    (Inv midBit ∧ ∃ t, step midBit = .next t ∧ t ≠ midBit) :=
  ⟨⟨witness_inv_midWrite, _, rfl, by decide +kernel⟩, ⟨witness_inv_midBit, _, rfl, by decide +kernel⟩⟩

theorem witness_ResetMeetsInvariant : 1 ≤ params.nDetent ∧ params.wf = true ∧ quick.wf = true := by decide

theorem witness_OperationsWriteOnlyTheirState :
    (∃ t, exec .evPop s0 = .next t) ∧ Part.record ∉ partsWritten .evPop := ⟨⟨_, rfl⟩, by decide⟩

theorem witness_EnableWrittenByEnableAndDisableOnly :
    (∃ t, exec (.encEdge true false) enabled = .next t) ∧ (∀ a b, Instr.encEdge true false ≠ .rotEnable a b) ∧
    Instr.encEdge true false ≠ .rotDisable := ⟨⟨_, rfl⟩, by decide, by decide⟩

theorem witness_HandlerOperationsRefused : { s0 with ctl.ctx := .interrupt }.ctl.ctx = .interrupt := rfl

theorem witness_BusOperationsWaitForTheLock :
    (sensorAt .wake s0).ctl.ctx = .task ∧ (sensorAt .wake s0).ctl.lock ≠ .free ∧ inRange clock186 = true ∧
    (sensorAt .wake s0).rtc.seq = .idle ∧
    { sensorAt .wake s0 with ctl.waiting := [.readClock, .readSensor] }.ctl.waiting[1]? = some .readSensor ∧
    s0.ctl.lock = .free ∧ s0.sensor.seq = .idle ∧ s0.ctl.mask = false ∧
    { s0 with rtc.seq := .wCheck }.rtc.seq = .wCheck ∧ { s0 with rtc.seq := .wCheck }.ctl.lock = .free ∧
    { s0 with ctl.waiting := [.writeClock clock186] }.ctl.waiting[0]? = some (.writeClock clock186) := by decide

theorem witness_SensorReadByOutcome :
    s0.ctl.ctx = .task ∧ s0.ctl.lock = .free ∧ s0.sensor.seq = .idle ∧
    sensorAnswer (answering (.frame frame150) s0) = .frame frame150 ∧
    sensorAnswer (answering (.timeoutAt 1) s0) = .timeoutAt 1 ∧
    sensorAnswer (answering (.timeoutAt 83) s0) = .timeoutAt 83 := by decide

theorem witness_SensorReadFollowsWaveform :
    sensorAnswer (answering (.wave [(true, 5), (false, 4)]) s0) = .wave [(true, 5), (false, 4)] ∧
    (answering (.wave [(true, 5), (false, 4)]) s0).sensor.seq = .idle := by decide

theorem witness_ConformingSensorIsDecoded :
    quick.tPoll = 1 ∧ 5 ≤ quick.waitMaxIter ∧ 1 ≤ quick.tHs ∧ quick.tHs ≤ quick.waitMaxIter ∧ 1 ≤ quick.tBitLow ∧
    quick.tBitLow ≤ quick.waitMaxIter ∧ 1 ≤ quick.tBit0 ∧ quick.tBit0 ≤ quick.tSample ∧
    quick.tSample < quick.tBit0 + quick.tBitLow ∧ quick.tSample < quick.tBit1 ∧
    quick.tBit1 ≤ quick.tSample + quick.waitMaxIter := by decide

theorem witness_SilentAndStuckSensorTimeOut :
    sensorAnswer (answering (.wave []) q0) = .wave [] ∧ q0.cfg.waitMaxIter * q0.cfg.tPoll < 6 ∧
    transfer quick ((conformingWave quick 0 frame150).take (4 + 2 * 39)) = .timeoutAt 83 := by decide

theorem witness_OneCorruptByteBreaksChecksum : checksumGood frame150 = true ∧ (0x24 : Byte) ≠ frame150[0] := by decide

theorem witness_WaitLevelPollsWithinBudget :
    q0.ctl.ctx = .task ∧
    sdataLevel .input [(true, 5), (false, 9)] (0 + 5 * 1 - 0) = false ∧
    (∀ m, m < 5 → sdataLevel .input [(true, 5), (false, 9)] (0 + m * 1 - 0) ≠ false) ∧
    (∀ n, n ≤ 5 → sdataLevel .input [(true, 6)] (0 + n * 1 - 0) ≠ false) ∧
    sensorAnswer (answering (.timeoutAt 1) q0) = .timeoutAt 1 := by decide

theorem witness_SampleReadsLineAfterDelay :
    (sensorAt (.bitSample 39) s0).ctl.ctx = .task ∧
    (sensorAt (.bitSample 39) (answering (.frame frame150) s0)).sensor.seq = .bitSample 39 ∧
    sensorAnswer (sensorAt (.bitSample 39) (answering (.frame frame150) s0)) = .frame frame150 := by decide

theorem witness_FrameBytesFillFrame :
    (sensorAt (.bitHi 0) s0).ctl.ctx = .task ∧
    (sensorAt (.bitHi 0) s0).sensor.seq = .bitHi 0 ∧ (sensorAt (.bitHi 32) s0).sensor.seq = .bitHi ⟨8 * 4, by omega⟩ := by
  decide

theorem witness_SensorResultCodesEndTheRead :
    (sensorAt .hs1 s0).ctl.ctx = .task ∧
    (sensorAt .hs1 s0).ctl.lock = .held .sensor ∧ wantedLevel .hs1 = some false ∧ waitStep .hs1 = some 1 ∧
    wantedLevel (.bitLo 39) = some false ∧ waitStep (.bitLo 39) = some 83 ∧
    (∀ n, n ≤ q0.cfg.waitMaxIter → sdataLevel .input [] (0 + n * 1 - 0) ≠ false) ∧
    (sensorAt .check s0).sensor.seq = .check := by decide

theorem witness_WriteByteGoesOutLsbFirst : s0.ctl.ctx = .task := rfl

theorem witness_PairIsOneWindowOfTwoBytes : s0.ctl.ctx = .task := rfl

theorem witness_ReadByteComesInLsbFirst :
    (presenting [0x80] s0).ctl.ctx = .task ∧
    (presenting [0x80] s0).pins.rio = .input ∧ (presenting [0x80] s0).env.rioIn[7]? = some true := by decide

theorem witness_BurstReadFillsBuffer :
    (presenting bytes177.toList s0).ctl.ctx = .task ∧
    (presenting bytes177.toList s0).env.rioIn = bytes177.toList.flatMap lsbBits ++ [] := by decide

theorem witness_HourByteDecoding :
    (127 : Byte).toNat < 128 ∧ 128 ≤ (0x80 : Byte).toNat ∧ 10 * ((0x80 : Byte).toNat / 16 % 2) + (0x80 : Byte).toNat % 16 < 1 ∧
    10 * ((0x92 : Byte).toNat / 16 % 2) + (0x92 : Byte).toNat % 16 = 12 ∧
    10 * ((0x93 : Byte).toNat / 16 % 2) + (0x93 : Byte).toNat % 16 = 13 := by decide

theorem witness_BcdRoundTrip : 99 ≤ 99 ∧ (0x99 : Byte).toNat / 16 ≤ 9 ∧ (0x99 : Byte).toNat % 16 ≤ 9 := by decide

theorem witness_WriteClockSendsNinePairs : Quiet s0 ∧ inRange ⟨59, 59, 23, 31, 12, 7, 99⟩ = true ∧
    inRange ⟨0, 0, 0, 1, 1, 1, 0⟩ = true := ⟨⟨rfl, rfl, rfl, rfl, rfl, rfl, rfl⟩, by decide, by decide⟩

theorem witness_WriteClockRejectsOutOfRange :
    (sensorAt .wake s0).ctl.ctx = .task ∧ (sensorAt .wake s0).rtc.seq = .idle ∧ ¬(60 ≤ 59) ∧ ¬(1 ≤ 0) ∧
    { s0 with rtc.seq := .wCheck }.rtc.seq = .wCheck := by decide

theorem witness_CommandBytesGoOut :
    (rtcAt (.wPair 0) s0).ctl.ctx = .task ∧
    (rtcAt (.wPair 0) s0).rtc.seq = .wPair 0 ∧ (rtcAt (.wPair 8) s0).rtc.seq = .wPair 8 ∧
    (rtcAt (.wPair 8) s0).rtc.phase = .rest ∧ (rtcAt .rCmd s0).rtc.seq = .rCmd ∧ (rtcAt .rCmd s0).rtc.phase = .rest := by
  decide

theorem witness_DataBytesOfAWrite :
    midWrite.ctl.ctx = .task ∧
    midWrite.rtc.phase = .data .load ∧ midWrite.rtc.seq = .wPair ⟨(2 : Fin 7).val + 1, by decide⟩ ∧
    (0x12 : Byte) = bcdEnc midWrite.rtc.wbuf.hour ∧
    (dataDue (.wPair 0) s0).rtc.seq = .wPair 0 ∧ (dataDue (.wPair 0) s0).rtc.phase = .data .load ∧
    (dataDue (.wPair 8) s0).rtc.seq = .wPair 8 ∧
    (dataDue (.wPair 8) s0).ctl.lock = .held .rtc := by decide

theorem witness_DataBytesOfARead :
    (dataDue (.rData 0) s0).ctl.ctx = .task ∧
    (dataDue (.rData 0) s0).rtc.seq = .rData 0 ∧ (dataDue (.rData 7) s0).rtc.phase = .data .load ∧ (dataDue (.rData 7) s0).rtc.seq = .rData 7 ∧
    (dataDue (.rData 7) s0).pins.rio = .input ∧ (dataDue (.rData 7) s0).ctl.lock = .held .rtc := by decide

theorem witness_ClockResultCodesEndTheOperation :
    s0.ctl.ctx = .task ∧
    { s0 with rtc.seq := .rDecode }.rtc.seq = .rDecode ∧ s0.sensor.seq ≠ .check ∧
    (clockDec params bytes177).isSome = true ∧ (clockDec params (Vector.replicate 8 0xFF)).isNone = true ∧
    inRange ⟨60, 0, 0, 1, 1, 1, 0⟩ = false ∧
    { rtcAt (.wPair 8) s0 with rtc.phase := .finish }.ctl.lock = .held .rtc := by decide

theorem witness_CodesOutOfPlaceDoNothing :
    s0.ctl.ctx = .task ∧ s0.quad.rotEn = false ∧ enabled.quad.rotEn = true ∧ enabled.quad.prev ≠ 1 ∧
    s0.chan.slot ≠ .buttonUp ∧ s0.chan.avail = false ∧ withRecord.chan.avail = true ∧ (Instr.lrecBtn, withRecord.chan.record) ∉ recordRows ∧
    (∀ q, s0.rtc.seq ≠ .wPair q) ∧ midBit.rtc.phase ≠ .rest ∧ midBit.rtc.phase ≠ .data .load ∧ s0.rtc.seq ≠ .rCmd ∧ s0.rtc.seq ≠ .rData 0 ∧ (∀ i, s0.sensor.seq ≠ .bitHi i) ∧
    s0.quad.prev ≠ 1 ∧ wantedLevel s0.sensor.seq = none ∧ s0.sensor.seq ≠ .check ∧ s0.rtc.seq ≠ .rDecode ∧
    s0.rtc.seq ≠ .wCheck := by decide

/-- The RTC engine at a micro-step of a position, in bit `n` of a byte. -/
def microStep (q : CSeq) (ph : CPhase) (n : Nat) : State :=
  { rtcAt q s0 with rtc.phase := ph, rtc.bitcnt := n, rtc.shift := 0xBF }

theorem witness_RtcMicroStepIsOnePrimitive :
    (∃ p, midBit.rtc.seq = .wPair p ∧ (CPhase.command = CPhase.command ∧ 0x8E#8 = pairCommand midBit.cfg p ∨
      CPhase.command = CPhase.data ∧ 0x8E#8 = pairData midBit.cfg midBit.rtc.wbuf p)) ∧
    midBit.rtc.phase = .command .high ∧
    (microStep .rCmd (.command .rise) 7).rtc.seq = .rCmd ∧ (microStep .rCmd (.command .rise) 7).rtc.bitcnt = 7 ∧
    0xBF#8 = (microStep .rCmd (.command .turn) 7).cfg.cmdBurstRead ∧
    (microStep (.wPair 7) (.data .fall) 6).rtc.bitcnt < 7 ∧ (microStep (.wPair 8) (.data .fall) 7).rtc.bitcnt = 7 ∧
    (7 : Fin 9).val + 1 < 9 ∧ (8 : Fin 9).val = 8 ∧ (microStep (.wPair 8) .settle 8).rtc.seq = .wPair 8 ∧
    (microStep (.rData 7) (.data .fall) 7).rtc.seq = .rData 7 ∧ (7 : Fin 8).val = 7 ∧
    (dataDue (.rData 7) s0).rtc.bitcnt < 8 ∧ (presenting [0x80] s0).env.rioIn = false :: List.replicate 6 false ++ [true] ∧
    (presenting [0x80] s0).pins.rio = .input ∧ (∀ n, 0 ≤ n → s0.rtc.shift.getLsbD n = false) ∧
    { s0 with rtc.seq := .wCheck }.rtc.seq = .wCheck ∧ { s0 with rtc.seq := .rDecode }.rtc.seq = .rDecode ∧
    s0.rtc.seq = .idle :=
  ⟨⟨0, rfl, .inl ⟨rfl, by decide⟩⟩, rfl, rfl, rfl, by decide, by decide, rfl, by decide, rfl, rfl, rfl, rfl, by decide, rfl, rfl,
    fun n _ => BitVec.getLsbD_zero, rfl, rfl, rfl⟩

/-- After the eighth rising edge of a read's command RIO is released (R167); after bit 7 of the last byte the byte is in
CBUF (R166). -/
theorem test_read_micro_steps :
    (rtcTick (microStep .rCmd (.command .turn) 7)).pins.rio = .input ∧
    (rtcTick (microStep (.rData 7) (.data .fall) 7)).rtc.cbuf[7] = 0xBF := by decide

theorem witness_EnableAndGlitchWindowDecideAcceptance :
    s0.quad.rotEn = false ∧ enabled.quad.rotEn = true ∧ enabled.ctl.mask = false ∧
    { enabled with quad.last := some 1001 }.time - 1001 < params.tGlitch ∧
    params.tGlitch ≤ { enabled with quad.last := some 1000 }.time - 1000 := by decide

theorem witness_TransitionTableProperties :
    transitionStep false 0 2 = 1 ∧ transitionStep false 2 3 = 1 ∧ transitionStep false 3 1 = 1 ∧
    transitionStep false 1 0 = 1 := by decide

theorem witness_TransitionsCountAndEmit :
    Accepts { enabled with quad.last := some 1000 } ∧ 1 ≤ enabled.cfg.nDetent ∧ transitionStep false 0 0 = 0 ∧
    (0 : Int) + transitionStep false 0 2 < 4 ∧ (4 : Int) ≤ 3 + transitionStep false 0 2 ∧
    (-3 : Int) + transitionStep false 0 1 ≤ -4 := ⟨witness_accepts, by decide, by decide, by decide, by decide, by decide⟩

theorem witness_RotEnableResetsDecoder : s0.ctl.ctx = .task := rfl

theorem witness_FullDetentEmitsOneEvent :
    enabled.quad.rotEn = true ∧ enabled.ctl.mask = false ∧ enabled.quad.acc = 0 ∧ enabled.quad.last = none ∧
    enabled.cfg.tGlitch ≤ 1000 ∧ 4 ≤ enabled.cfg.nDetent ∧
    (turn false 1000 4 enabled).chan.slot = .rotateCCW ∧ (turn true 1000 3 enabled).quad.acc = 3 := by decide

theorem witness_MaskedUnitsStayAndHeldEdgesAreServedOnce :
    (∃ t, step (sensorAt .hs1 enabled) = .next t ∧ t.sensor.seq = .idle) ∧
    (sensorAt .hs1 enabled).ctl.mask = true ∧ (sensorAt .hs1 enabled).quad.rotEn = true ∧
    { enabled with ctl.pend := ⟨true, false, true⟩ }.ctl.pend.get .encA = true ∧
    { enabled with ctl.pend := ⟨true, false, true⟩ }.ctl.mask = false :=
  ⟨⟨_, rfl, by decide +kernel⟩, by decide⟩

theorem witness_ReleaseIsImmediate :
    s0.ctl.mask = false ∧ false ≠ s0.cfg.btnActive ∧ s0.button.latch = false ∧ { s0 with button.latch := true }.button.latch = true := by
  decide

theorem witness_PressIsDebounced :
    s0.ctl.mask = false ∧ true = s0.cfg.btnActive ∧ 129999 - 100000 < s0.cfg.tDebounce ∧ s0.cfg.tDebounce ≤ 130000 - 100000 ∧
    s0.button.latch = false := by decide

theorem witness_WaitReadTakesRecordOrBlocks :
    withRecord.ctl.ctx = .task ∧ withRecord.chan.avail = true ∧ s0.chan.avail = false ∧ withRecord.ctl.mask = false ∧
    (sensorAt .hs1 withRecord).ctl.mask = true ∧
    0 < { withRecord with ctl.readers := 1 }.ctl.readers := by decide

theorem witness_EventCodesAreResults :
    withRecord.ctl.ctx = .task ∧ withRecord.chan.slot = .rotateCW ∧ withRecord.chan.avail = true ∧
    withRecord.chan.record = ⟨.rot, false⟩ ∧ s0.chan.slot = .none ∧
    { s0 with chan := { slot := .none, record := ⟨.none, true⟩, avail := true } }.chan.record = ⟨.none, true⟩ := by decide

theorem witness_PollAndWaitPathsAreIndependent :
    recordOf s0.cfg.lastevOnUp .buttonUp = some ⟨.btn, false⟩ ∧ ∃ t, exec (.evPush .buttonUp) s0 = .next t := ⟨rfl, _, rfl⟩

theorem witness_WaitReadNeverReturnsNone : Inv withRecord ∧ ∃ t, step withRecord = .next t ∧
    t.trace.history = withRecord.trace.history ++ [.waitRead ⟨.rot, false⟩] := ⟨witness_inv_withRecord, _, rfl, rfl⟩

/-- The sensor engine at a position it entered at TIME 0, with a script. -/
def scripted (q : SSeq) (items : List Item) : State :=
  { answering (.wave []) q0 with sensor.seq := q, ctl.lock := .held .sensor, env.script := items }

theorem witness_IssuedOperationsAgreeAndKeepBounds :
    s0.env.script = [] ∧ s0.sensor.seq = .idle ∧ s0.ctl.mask = false ∧ s0.ctl.lock = .free ∧ inRange clock186 = true ∧
    (scripted .wake [.pick (.sensor (some 10))]).env.script = .pick (.sensor (some 10)) :: [] ∧
    (scripted .wake [.pick (.sensor (some 10))]).aux.sClock + quick.tWake ≤ 10 ∧
    (scripted .release [.pick (.sensor (some 2))]).time ≤ 2 ∧
    2 ≤ (scripted .release [.pick (.sensor (some 2))]).aux.sClock + quick.tRel ∧
    (decode quick .hostop (encLine quick 3 true false).bytes = .ok (.encEdge true false, [])) ∧
    (encLine quick 3 true false).time = some 3 ∧
    (scripted .release [.line (encLine quick 3 true false)]).aux.sClock + quick.tRel < 3 ∧
    sensorAnswer (answering (.wave []) q0) = .wave [] :=
  ⟨rfl, rfl, rfl, rfl, by decide, rfl, by decide, by decide, by decide, by rfl, rfl, by decide, rfl⟩

/-- WAKE lasts `T_WAKE_US` where an earlier end is asked for, and longer where a later one is (R132); RELEASE lasts
`T_REL_US` where a later end is asked for (R133). -/
theorem test_wake_and_release_bounds :
    (next? (step (scripted .wake [.pick (.sensor (some 9))]))).map State.time = some 10 ∧
    (next? (step (scripted .wake [.pick (.sensor (some 11))]))).map State.time = some 11 ∧
    (next? (step (scripted .release [.pick (.sensor (some 3))]))).map State.time = some 2 := by decide

theorem witness_StepKeepsTimeParametersHistory : ∃ t, step midBit = .next t ∧ midBit.time < t.time :=
  ⟨_, rfl, by decide +kernel⟩

theorem witness_SensorReadAlwaysEnds :
    (answering (.timeoutAt 84) s0).ctl.ctx = .task ∧ (answering (.timeoutAt 84) s0).ctl.lock = .free ∧
    (answering (.timeoutAt 84) s0).sensor.seq = .idle := by decide

theorem witness_ReadClockDecodesTheBurst :
    Quiet (presenting bytes177.toList s0) ∧
    (presenting bytes177.toList s0).env.rioIn = bytes177.toList.flatMap lsbBits ++ [] ∧
    bcdDec 0x60 > 59 ∧ bcdDec 0x59 ≤ 59 ∧ hourDec .reconstruct 0x24 = some 24 ∧ hourDec .reconstruct 0x23 = some 23 ∧
    hourDec .reconstruct 0x93 = none := ⟨witness_quiet, by decide, by decide, by decide, by decide, by decide, by decide⟩

theorem witness_TableCodesCountTheirEntry :
    Accepts { enabled with quad.last := some 1000 } ∧ 1 ≤ enabled.cfg.nDetent ∧
    { enabled with quad.last := some 1000 }.quad.prev = 0 ∧ transitionStep false 0 3 = 0 ∧ (3 : Int) + 1 ≥ 4 ∧
    (2 : Int) + 1 < 4 ∧ (-2 : Int) + -1 > -4 ∧ (-3 : Int) + -1 ≤ -4 ∧
    seen .q_00_10 { enabled with quad.acc := 3 } (fun t => (t.quad.acc, t.chan.slot)) = some (0, .rotateCW) ∧
    seen .q_00_01 { enabled with cfg.nDetent := 1 } (fun t => (t.quad.acc, t.chan.slot)) = some (0, .rotateCCW) :=
  ⟨witness_accepts, by decide, by decide, by decide, by decide, by decide, by decide, by decide, by decide, by decide⟩

theorem witness_RotDisableClearsEnableOnly : s0.ctl.ctx = .task ∧ s0.quad.rotEn = false := by decide

theorem witness_ButtonEventsAlternate :
    s0.ctl.mask = false ∧ s0.button.latch = false ∧ { s0 with button.latch := true }.button.latch = true := by decide

theorem witness_PopReadsAndEmptiesSlot : withRecord.ctl.ctx = .task ∧ withRecord.chan.slot = .rotateCW := by decide

end Sys2Proof.Tests
end

/-! ## Codes: decoding and encoding (O1, O2) -/

namespace Sys2Proof.Codes

/-! ### Nibbles, levels and indices of a byte -/

@[simp] theorem highNibble_byteOf (tens units : Nibble) : highNibble (byteOf tens units) = tens := by
  unfold highNibble byteOf
  exact BitVec.extractLsb'_append_eq_left

@[simp] theorem lowNibble_byteOf (tens units : Nibble) : lowNibble (byteOf tens units) = units := by
  unfold lowNibble byteOf
  exact BitVec.extractLsb'_append_eq_right

/-- A byte is its two halves (R95, R115). -/
theorem toNat_eq_nibbles (b : Byte) : b.toNat = 16 * (highNibble b).toNat + (lowNibble b).toNat := by
  have := b.isLt
  simp only [highNibble, lowNibble, BitVec.extractLsb'_toNat, Nat.shiftRight_eq_div_pow]
  omega

@[simp] theorem byteOf_nibbles (b : Byte) : byteOf (highNibble b) (lowNibble b) = b := by
  apply BitVec.eq_of_toNat_eq
  rw [toNat_eq_nibbles, highNibble_byteOf, lowNibble_byteOf, ← toNat_eq_nibbles]

/-- An index below 16 is its previous and its new raw state (R109). -/
theorem toNat_eq_rawStates (b : Byte) (h : b.toNat < 16) :
    b.toNat = 4 * (b.extractLsb' 2 2).toNat + (b.extractLsb' 0 2).toNat := by
  simp only [BitVec.extractLsb'_toNat, Nat.shiftRight_eq_div_pow]
  omega

/-- The low two bits of a byte as two levels (R115). -/
theorem toNat_mod_four (b : Byte) : b.toNat % 4 = 2 * (b.getLsbD 1).toNat + (b.getLsbD 0).toNat := by
  simp only [BitVec.getLsbD, Nat.toNat_testBit]
  omega

/-- The byte of an operation whose low bits are two levels (R115). -/
theorem toNat_or_levelBits (c : Byte) (hc : c ∈ [0x60#8, 0x80#8, 0x90#8]) (x y : Bool) :
    (c ||| levelBits x y).toNat = c.toNat + 2 * x.toNat + y.toNat := by
  simp only [List.mem_cons, List.not_mem_nil, or_false] at hc
  rcases hc with rfl | rfl | rfl <;> cases x <;> cases y <;> rfl

/-- A byte of known number. -/
theorem eq_ofNat_of_toNat {b : Byte} {n : Nat} (h : b.toNat = n) : b = BitVec.ofNat 8 n := by
  rw [← h, BitVec.ofNat_toNat, BitVec.setWidth_eq]

/-! ### The operand of WRITE_CLOCK (log 12) -/

theorem encodeNumber_of_lt {v : Nat} (h : v < 255) : encodeNumber v = [BitVec.ofNat 8 v] := by
  simp [encodeNumber, Nat.div_eq_of_lt h, Nat.mod_eq_of_lt h]

theorem encodeNumber_add (v : Nat) : encodeNumber (255 + v) = 0xFF :: encodeNumber v := by
  simp [encodeNumber, Nat.add_div_left, List.replicate_succ]

/-- A number is read back from its bytes, whatever follows. -/
theorem decodeNumber_encodeNumber (v : Nat) (rest : List Byte) :
    decodeNumber (encodeNumber v ++ rest) = .ok (v, rest) := by
  induction v using Nat.strongRecOn with
  | ind v ih =>
    by_cases hv : v < 255
    · have hne : BitVec.ofNat 8 v ≠ 0xFF := by bv_omega
      rw [encodeNumber_of_lt hv, List.singleton_append, decodeNumber, if_neg hne, BitVec.toNat_ofNat,
        Nat.mod_eq_of_lt (by omega)]
    · obtain ⟨w, rfl⟩ : ∃ w, v = 255 + w := ⟨v - 255, by omega⟩
      rw [encodeNumber_add, List.cons_append, decodeNumber, if_pos rfl, ih w (by omega)]

/-- The bytes a number was read from are its bytes. -/
theorem encodeNumber_of_decodeNumber {bytes rest : List Byte} {v : Nat} (h : decodeNumber bytes = .ok (v, rest)) :
    encodeNumber v ++ rest = bytes := by
  induction bytes generalizing v with
  | nil => cases h
  | cons b bs ih =>
    rw [decodeNumber] at h
    split at h
    next hb =>
      cases hd : decodeNumber bs with
      | error e => rw [hd] at h; cases h
      | ok r =>
        rw [hd] at h
        cases h
        rw [encodeNumber_add, List.cons_append, ih hd, hb]
    next hb =>
      cases h
      have hlt : b.toNat < 255 := by
        have := b.isLt
        have : b.toNat ≠ 255 := fun h => hb (eq_ofNat_of_toNat h)
        omega
      rw [encodeNumber_of_lt hlt, ← eq_ofNat_of_toNat rfl, List.singleton_append]

theorem decodeNumbers_flatMap (vs : List Nat) (rest : List Byte) :
    decodeNumbers vs.length (vs.flatMap encodeNumber ++ rest) = .ok (vs, rest) := by
  induction vs with
  | nil => rfl
  | cons v vs ih =>
    rw [List.flatMap_cons, List.append_assoc, List.length_cons, decodeNumbers, decodeNumber_encodeNumber]
    simp only [ih]

theorem flatMap_of_decodeNumbers {n : Nat} {bytes rest : List Byte} {vs : List Nat}
    (h : decodeNumbers n bytes = .ok (vs, rest)) : vs.flatMap encodeNumber ++ rest = bytes := by
  induction n generalizing bytes vs with
  | zero => cases h; rfl
  | succ n ih =>
    rw [decodeNumbers] at h
    cases hv : decodeNumber bytes with
    | error e => rw [hv] at h; cases h
    | ok r =>
      obtain ⟨v, bytes'⟩ := r
      cases hvs : decodeNumbers n bytes' with
      | error e => simp only [hv, hvs] at h; cases h
      | ok r =>
        simp only [hv, hvs] at h
        cases h
        rw [List.flatMap_cons, List.append_assoc, ih hvs, encodeNumber_of_decodeNumber hv]

theorem decodeClockOperand_bytes (v : ClockValue) (rest : List Byte) :
    decodeClockOperand (clockOperandBytes v ++ rest) = .ok (.writeClock v, rest) := by
  have h := decodeNumbers_flatMap [v.second, v.minute, v.hour, v.day, v.month, v.weekday, v.year] rest
  simp only [List.length_cons, List.length_nil] at h
  simp only [decodeClockOperand, clockOperandBytes, h]

/-- What the operand's decoder answers is a WRITE_CLOCK whose operand has the bytes read. -/
theorem decodeClockOperand_ok {bytes rest : List Byte} {i : Instr} (h : decodeClockOperand bytes = .ok (i, rest)) :
    ∃ v, i = .writeClock v ∧ clockOperandBytes v ++ rest = bytes := by
  unfold decodeClockOperand at h
  split at h
  next hd => cases h; exact ⟨_, rfl, flatMap_of_decodeNumbers hd⟩
  next => cases h
  next => cases h

/-! ### Each format's decoder reads back what the encoder writes -/

/-- An instruction of the host operations, from its code and operand (R115, log 12). -/
theorem decode_encode_hostop (p : Params) {i : Instr} (hw : wellFormed i = true) (hf : formatOf i = some .hostop)
    (rest : List Byte) : decode p .hostop (encode p i ++ rest) = .ok (i, rest) := by
  cases i
  case rotEnable a b => cases a <;> cases b <;> rfl
  case encEdge a b => cases a <;> cases b <;> rfl
  case btnEdge l => cases l <;> rfl
  case writeClock v => exact decodeClockOperand_bytes v rest
  case hostopReserved op arg =>
    have hr : hostopAssigned op arg = false := by simpa [wellFormed] using hw
    simp [decode, encode, decodeHostop, reservedOf, hr]
  all_goals cases hf <;> rfl

/-- A command byte, where the nine differ (R101): each test before that of its row asks for another of the nine. -/
theorem decodeCommand_encode {p : Params} (hp : p.commands.Nodup) {i : Instr} (hf : formatOf i = some .rcmd) :
    ∃ b, encode p i = [b] ∧ decodeCommand p b = .ok i := by
  simp only [Params.commands, List.nodup_cons, List.mem_cons, List.not_mem_nil, or_false, not_or] at hp
  cases i <;> cases hf
  all_goals
    refine ⟨_, rfl, ?_⟩
    unfold decodeCommand
    grind

/-- A digit pair of a data byte goes to the row of its location (R99). -/
theorem rdataRow_encode (p : Params) {i : Instr} {j : Fin 8} (hf : formatOf i = some (.rdata j)) :
    ∃ b, encode p i = [b] ∧ rdataRow j b = i := by
  cases i <;> cases hf <;> exact ⟨_, rfl, by simp [rdataRow]⟩

/-- A frame byte is read at its place (R91). -/
theorem decodeFrame_encode (p : Params) {i : Instr} {n : Fin 5} (hf : formatOf i = some (.sframe n))
    (rest : List Byte) : decodeFrame n (encode p i ++ rest) = .ok (i, rest) := by
  cases i <;> cases hf <;> rfl

theorem decodeWriteProtect_encode (p : Params) {i : Instr} {on : Bool} (hf : formatOf i = some (.wp on)) :
    ∃ b, encode p i = [b] ∧ decodeWriteProtect p on b = .ok i := by
  cases i <;> cases hf <;> exact ⟨_, rfl, by simp [decodeWriteProtect]⟩

theorem decodeTransition_encode (p : Params) {i : Instr} (hf : formatOf i = some .qidx) :
    ∃ b, encode p i = [b] ∧ decodeTransition b = .ok i := by
  cases i <;> cases hf <;> exact ⟨_, rfl, rfl⟩

theorem decodeEvent_encode (p : Params) {i : Instr} (hf : formatOf i = some .evcode) :
    ∃ b, encode p i = [b] ∧ decodeEvent b = .ok i := by
  cases i <;> cases hf <;> exact ⟨_, rfl, rfl⟩

theorem decodeRecord_encode (p : Params) {i : Instr} (hf : formatOf i = some .lrec) :
    ∃ b, encode p i = [b] ∧ decodeRecord b = .ok i := by
  cases i <;> cases hf <;> exact ⟨_, rfl, rfl⟩

theorem decodeResult_encode (p : Params) {i : Instr} (hf : formatOf i = some .errcode) :
    ∃ b, encode p i = [b] ∧ decodeResult b = .ok i := by
  cases i <;> cases hf <;> exact ⟨_, rfl, rfl⟩

/-- Settles O1, format by format. -/
theorem decodeEncodeRoundTrip : Obligations.DecodeEncodeRoundTrip := by
  intro p i f rest hp hw hf
  /- A format of one byte: its decoder answers the instruction, and the bytes after it are left. -/
  have one {r : Byte → Except DecodeError Instr} (h : ∃ b, encode p i = [b] ∧ r b = .ok i)
      (hd : ∀ b, decode p f (b :: rest) = oneByte (r b) rest) : decode p f (encode p i ++ rest) = .ok (i, rest) := by
    obtain ⟨b, he, hr⟩ := h
    rw [he, List.singleton_append, hd, hr, oneByte]
  cases f with
  | hostop => exact decode_encode_hostop p hw hf rest
  | sframe n => exact decodeFrame_encode p hf rest
  | rcmd => exact one (decodeCommand_encode hp hf) fun _ => rfl
  | wp on => exact one (decodeWriteProtect_encode p hf) fun _ => rfl
  | rdata j =>
    obtain ⟨b, he, hr⟩ := rdataRow_encode p hf
    exact one (r := fun b => .ok (rdataRow j b)) ⟨b, he, congrArg _ hr⟩ fun _ => rfl
  | qidx => exact one (decodeTransition_encode p hf) fun _ => rfl
  | evcode => exact one (decodeEvent_encode p hf) fun _ => rfl
  | lrec => exact one (decodeRecord_encode p hf) fun _ => rfl
  | errcode => exact one (decodeResult_encode p hf) fun _ => rfl

/-! ### What each format's decoder answers encodes to the bytes read -/

/-- Only a reserved HOSTOP code can be ill-formed. -/
theorem wellFormed_of_formatOf {i : Instr} {f : Format} (hf : formatOf i = some f) (hne : f ≠ .hostop) :
    wellFormed i = true := by
  cases i
  case hostopReserved op arg => cases hf; exact absurd rfl hne
  all_goals rfl

/-- A byte with halves of known number (R115). -/
theorem eq_of_nibbles {b : Byte} {op arg : Nat} (hop : (highNibble b).toNat = op) (harg : (lowNibble b).toNat = arg) :
    b = BitVec.ofNat 8 (16 * op + arg) :=
  eq_ofNat_of_toNat (by rw [toNat_eq_nibbles, hop, harg])

/-- An operation with two levels: the low bits of the byte read are those levels (R115). -/
theorem or_levelBits_eq {b c : Byte} (hc : c ∈ [0x60#8, 0x80#8, 0x90#8])
    (hop : 16 * (highNibble b).toNat = c.toNat) (harg : (lowNibble b).toNat < 4) :
    c ||| levelBits (b.getLsbD 1) (b.getLsbD 0) = b := by
  apply BitVec.eq_of_toNat_eq
  have hb := toNat_eq_nibbles b
  have h4 := toNat_mod_four b
  rw [toNat_or_levelBits c hc]
  omega

/-- An operation with one level (R115). -/
theorem or_levelBit_eq {b : Byte} (hop : (highNibble b).toNat = 9) (harg : (lowNibble b).toNat < 2) :
    (0x90 : Byte) ||| levelBits false (b.getLsbD 0) = b := by
  have h1 : b.getLsbD 1 = false := by
    have hb := toNat_eq_nibbles b
    have h4 := toNat_mod_four b
    cases h : b.getLsbD 1 with
    | false => rfl
    | true => rw [h, Bool.toNat_true] at h4; omega
  rw [← h1]
  exact or_levelBits_eq (by simp) (by simp [hop]) (by omega)

/-- A host operation read (R115, log 12). -/
theorem decodeHostop_ok (p : Params) {b : Byte} {bytes rest : List Byte} {i : Instr}
    (h : decodeHostop b bytes = .ok (i, rest)) :
    wellFormed i = true ∧ formatOf i = some .hostop ∧ encode p i ++ rest = b :: bytes := by
  unfold decodeHostop at h
  split at h
  next ha =>
    unfold hostopAssigned at ha
    split at h
    case h_1 hop | h_2 hop | h_4 hop | h_5 hop | h_7 hop =>
      cases h
      simp only [hop, beq_iff_eq] at ha
      rw [eq_of_nibbles hop ha]
      exact ⟨rfl, rfl, rfl⟩
    case h_3 hop =>
      obtain ⟨v, rfl, hv⟩ := decodeClockOperand_ok h
      simp only [hop, beq_iff_eq] at ha
      rw [eq_of_nibbles hop ha, ← hv]
      exact ⟨rfl, rfl, rfl⟩
    case h_6 hop | h_8 hop =>
      cases h
      simp only [hop, decide_eq_true_eq] at ha
      refine ⟨rfl, rfl, ?_⟩
      rw [encode, or_levelBits_eq (by simp) (by simp [hop]) ha, List.singleton_append]
    case h_9 hop =>
      cases h
      simp only [hop, decide_eq_true_eq] at ha
      refine ⟨rfl, rfl, ?_⟩
      rw [encode, or_levelBit_eq hop ha, List.singleton_append]
    case h_10 => split at ha <;> simp_all
  next hr =>
    cases h
    exact ⟨by simpa [reservedOf, wellFormed] using hr, rfl, by simp [reservedOf, encode]⟩

theorem decodeCommand_ok {p : Params} {b : Byte} {i : Instr} (h : decodeCommand p b = .ok i) :
    formatOf i = some .rcmd ∧ encode p i = [b] := by
  unfold decodeCommand at h
  repeat' split at h
  all_goals cases h
  all_goals exact ⟨rfl, by simp only [encode, *]⟩

theorem decodeWriteProtect_ok {p : Params} {on : Bool} {b : Byte} {i : Instr}
    (h : decodeWriteProtect p on b = .ok i) : formatOf i = some (.wp on) ∧ encode p i = [b] := by
  unfold decodeWriteProtect at h
  repeat' split at h
  all_goals cases h
  all_goals simp_all [formatOf, encode]

theorem rdataRow_ok (p : Params) (j : Fin 8) (b : Byte) :
    formatOf (rdataRow j b) = some (.rdata j) ∧ encode p (rdataRow j b) = [b] := by
  match j with
  | 0 | 1 | 2 | 3 | 4 | 5 | 6 | 7 => exact ⟨rfl, congrArg (fun c => [c]) (byteOf_nibbles b)⟩

/-- A transition row has the index of its two raw states (R109). -/
theorem transitionRow_code (p : Params) (prev new : RawState) :
    formatOf (transitionRow prev new) = some .qidx ∧
      encode p (transitionRow prev new) = [BitVec.ofNat 8 (4 * prev.toNat + new.toNat)] := by
  have four : ∀ q : RawState, q = 0 ∨ q = 1 ∨ q = 2 ∨ q = 3 := by decide
  rcases four prev with rfl | rfl | rfl | rfl <;> rcases four new with rfl | rfl | rfl | rfl <;> exact ⟨rfl, rfl⟩

theorem decodeTransition_ok (p : Params) {b : Byte} {i : Instr} (h : decodeTransition b = .ok i) :
    formatOf i = some .qidx ∧ encode p i = [b] := by
  unfold decodeTransition at h
  split at h <;> cases h
  next hb =>
    obtain ⟨hf, he⟩ := transitionRow_code p (b.extractLsb' 2 2) (b.extractLsb' 0 2)
    exact ⟨hf, he.trans (by rw [← eq_ofNat_of_toNat (toNat_eq_rawStates b hb)])⟩

theorem decodeEvent_ok (p : Params) {b : Byte} {i : Instr} (h : decodeEvent b = .ok i) :
    formatOf i = some .evcode ∧ encode p i = [b] := by
  unfold decodeEvent at h
  split at h <;> cases h
  all_goals exact ⟨rfl, by rw [eq_ofNat_of_toNat ‹b.toNat = _›]; rfl⟩

theorem decodeResult_ok (p : Params) {b : Byte} {i : Instr} (h : decodeResult b = .ok i) :
    formatOf i = some .errcode ∧ encode p i = [b] := by
  unfold decodeResult at h
  split at h <;> cases h
  all_goals exact ⟨rfl, by rw [eq_ofNat_of_toNat ‹b.toNat = _›]; rfl⟩

/-- A record read has its code, but for the direction bit of None and Btn, which is any (R113). -/
theorem decodeRecord_ok (p : Params) {b : Byte} {i : Instr} (h : decodeRecord b = .ok i) :
    formatOf i = some .lrec ∧
      (encode p i = [b] ∨ ∃ c ∈ [0b000#8, 0b100#8], b = c ||| 1 ∧ encode p i = [c]) := by
  unfold decodeRecord at h
  split at h <;> cases h
  case h_2 hb | h_6 hb => exact ⟨rfl, .inr ⟨_, by simp, eq_ofNat_of_toNat hb, rfl⟩⟩
  all_goals exact ⟨rfl, .inl (by rw [eq_ofNat_of_toNat ‹b.toNat = _›]; rfl)⟩

/-- What an instruction of one byte was read from. -/
theorem oneByte_ok {r : Except DecodeError Instr} {bytes rest : List Byte} {i : Instr}
    (h : oneByte r bytes = .ok (i, rest)) : r = .ok i ∧ rest = bytes := by
  cases r <;> cases h
  exact ⟨rfl, rfl⟩

/-- Settles O2, format by format. -/
theorem decodedCodeIsTheCodeRead : Obligations.DecodedCodeIsTheCodeRead := by
  intro p f bytes rest i hframe h
  /- A format of one byte whose decoder answers instructions with the code read. -/
  have one {b : Byte} {bs : List Byte} {r : Except DecodeError Instr} (h : oneByte r bs = .ok (i, rest))
      (hne : f ≠ .hostop) (hr : r = .ok i → formatOf i = some f ∧ encode p i = [b]) :
      wellFormed i = true ∧ formatOf i = some f ∧ (encode p i ++ rest = b :: bs ∨
        f = .lrec ∧ ∃ c ∈ [0b000#8, 0b100#8], b :: bs = (c ||| 1) :: rest ∧ encode p i = [c]) := by
    obtain ⟨hi, rfl⟩ := oneByte_ok h
    obtain ⟨hf, he⟩ := hr hi
    exact ⟨wellFormed_of_formatOf hf hne, hf, .inl (by rw [he, List.singleton_append])⟩
  cases bytes with
  | nil =>
    cases f with
    | sframe n => exact absurd rfl (hframe n)
    | _ => cases h
  | cons b bs =>
    cases f with
    | hostop =>
      obtain ⟨hw, hf, he⟩ := decodeHostop_ok p h
      exact ⟨hw, hf, .inl he⟩
    | sframe n => exact absurd rfl (hframe n)
    | rcmd => exact one h (by simp) decodeCommand_ok
    | wp on => exact one h (by simp) decodeWriteProtect_ok
    | rdata j => exact one (r := .ok (rdataRow j b)) h (by simp) fun hr => Except.ok.inj hr ▸ rdataRow_ok p j b
    | qidx => exact one h (by simp) (decodeTransition_ok p)
    | evcode => exact one h (by simp) (decodeEvent_ok p)
    | lrec =>
      obtain ⟨hi, rfl⟩ := oneByte_ok h
      obtain ⟨hf, hcode⟩ := decodeRecord_ok p hi
      refine ⟨wellFormed_of_formatOf hf (by simp), hf, ?_⟩
      obtain he | ⟨c, hc, hb, he⟩ := hcode
      · exact .inl (by rw [he, List.singleton_append])
      · exact .inr ⟨rfl, c, hc, by rw [hb], he⟩
    | errcode => exact one h (by simp) (decodeResult_ok p)

end Sys2Proof.Codes

/-! ## Every step goes onward: TIME, parameters and traces (O11) -/

namespace Sys2Proof.Machine

/-- `t` can come after `s`: TIME is not earlier, the parameters are those of `s`, and the traces have only grown (R10,
R45, R79). -/
structure Onward (s t : State) : Prop where
  time : s.time ≤ t.time
  cfg : t.cfg = s.cfg
  history : s.trace.history <+: t.trace.history
  rioLog : s.trace.rioLog <+: t.trace.rioLog

theorem Onward.trans {s t u : State} (h : Onward s t) (h' : Onward t u) : Onward s u where
  time := Nat.le_trans h.time h'.time
  cfg := h'.cfg.trans h.cfg
  history := h.history.trans h'.history
  rioLog := h.rioLog.trans h'.rioLog

/-- Writing any other field is going onward. -/
theorem Onward.same {s t : State} (ht : t.time = s.time) (hc : t.cfg = s.cfg) (htr : t.trace = s.trace) :
    Onward s t where
  time := Nat.le_of_eq ht.symm
  cfg := hc
  history := htr ▸ List.prefix_refl _
  rioLog := htr ▸ List.prefix_refl _

/-- A step onward from a state that differs from `s` in other fields only. -/
theorem Onward.from_update {s t u : State} (h : Onward u t) (ht : u.time = s.time) (hc : u.cfg = s.cfg)
    (htr : u.trace = s.trace) : Onward s t :=
  (Onward.same ht hc htr).trans h

/-- A step onward, and other fields written after it. -/
theorem Onward.then_update {s t u : State} (h : Onward s u) (ht : t.time = u.time) (hc : t.cfg = u.cfg)
    (htr : t.trace = u.trace) : Onward s t :=
  h.trans (.same ht hc htr)

theorem Onward.refl (s : State) : Onward s s := .same rfl rfl rfl

theorem onward_ite {c : Prop} [Decidable c] {s t u : State} (ht : Onward s t) (hu : Onward s u) :
    Onward s (if c then t else u) := by
  split
  · exact ht
  · exact hu

/-! ### The operations that move TIME or a trace -/

theorem delay_onward (n : Nat) (s : State) : Onward s (delay n s) where
  time := Nat.le_add_right _ _
  cfg := rfl
  history := List.prefix_refl _
  rioLog := List.prefix_refl _

theorem timeTo_onward (t : Nat) (s : State) : Onward s (timeTo t s) where
  time := Nat.le_max_left _ _
  cfg := rfl
  history := List.prefix_refl _
  rioLog := List.prefix_refl _

theorem recordEvent_onward (e : Event) (s : State) : Onward s (recordEvent e s) where
  time := Nat.le_refl _
  cfg := rfl
  history := List.prefix_append _ _
  rioLog := List.prefix_refl _

theorem clockRise_onward (level : Bool) (s : State) : Onward s (clockRise level s) where
  time := Nat.le_refl _
  cfg := rfl
  history := List.prefix_refl _
  rioLog := List.prefix_append _ _

theorem releaseLock_onward (e : Engine) (s : State) : Onward s (releaseLock e s) :=
  onward_ite (.same rfl rfl rfl) (.refl s)

theorem inPlace_onward (here : Bool) {f : State → State} {s : State} (hf : Onward s (f s)) :
    Onward s (inPlace here f s) :=
  onward_ite hf (.refl s)

/-! ### The event channel, the button and the decoder -/

theorem push_onward (e : PushEvent) (s : State) : Onward s (push e s) := by
  obtain ⟨r, _, h⟩ | ⟨_, h⟩ := push_cases e s <;> rw [h] <;>
    exact (recordEvent_onward (.push e) s).then_update rfl rfl rfl

theorem pop_onward (s : State) : Onward s (pop s) :=
  (recordEvent_onward _ (setSlot .none s)).from_update rfl rfl rfl

theorem takeRecord_onward (s : State) : Onward s (takeRecord s) :=
  (recordEvent_onward _ (setRecord ⟨.none, false⟩ s)).from_update rfl rfl rfl

theorem buttonEdge_onward (l : Bool) (s : State) : Onward s (buttonEdge l s) := by
  obtain ⟨_, h⟩ | ⟨_, _, h⟩ | ⟨_, _, h⟩ := buttonEdge_cases l s <;> rw [h]
  · exact .same rfl rfl rfl
  · suffices Onward s (pressButton s) from this.then_update rfl rfl rfl
    obtain hp | ⟨_, _, hp⟩ := pressButton_cases s <;> rw [hp]
    · exact .refl s
    · exact (push_onward _ _).from_update rfl rfl rfl
  · suffices Onward s (releaseButton s) from this.then_update rfl rfl rfl
    obtain ⟨_, hr⟩ | ⟨_, hr⟩ := releaseButton_cases s <;> rw [hr]
    · exact .refl s
    · exact (push_onward _ _).from_update rfl rfl rfl

theorem accumulate_onward (d : Int) (s : State) : Onward s (accumulate d s) := by
  obtain ⟨_, h⟩ | ⟨_, _, h⟩ | ⟨_, _, h⟩ := accumulate_cases d s <;> rw [h]
  · exact (push_onward _ s).then_update rfl rfl rfl
  · exact (push_onward _ s).then_update rfl rfl rfl
  · exact .same rfl rfl rfl

theorem acceptEdge_onward (new : RawState) (s : State) : Onward s (acceptEdge new s) :=
  onward_ite (.same rfl rfl rfl) ((accumulate_onward _ _).from_update rfl rfl rfl)

theorem encoderEdge_onward (a b : Bool) (s : State) : Onward s (encoderEdge a b s) := by
  obtain ⟨_, h⟩ | ⟨_, _, h⟩ | ⟨_, _, _, h⟩ | ⟨_, _, _, h⟩ := encoderEdge_cases a b s <;> rw [h]
  · exact .same rfl rfl rfl
  · exact .same rfl rfl rfl
  · exact .same rfl rfl rfl
  · exact (acceptEdge_onward _ s).then_update rfl rfl rfl

/-! ### The RTC engine -/

theorem bitAct_onward (k : ByteKind) (q : BitPhase) (s : State) : Onward s (bitAct k q s) := by
  cases q with
  | low | high => exact delay_onward _ s
  | rise => exact clockRise_onward _ s
  | _ => exact .same rfl rfl rfl

theorem runByte_onward (k : ByteKind) (n : Nat) (q : BitPhase) (s : State) : Onward s (runByte k n q s) := by
  induction n generalizing q s with
  | zero => exact .refl s
  | succ n ih =>
    rw [runByte]
    split
    · exact (bitAct_onward k q s).trans (ih _ _)
    · exact bitAct_onward k q s

theorem writeByte_onward (turn : Bool) (b : Byte) (s : State) : Onward s (writeByte turn b s) := runByte_onward _ _ _ s

theorem readByte_onward (s : State) : Onward s (readByte s) := runByte_onward _ _ _ s

theorem storeByte_onward (j : Fin 8) (s : State) : Onward s (storeByte j s) := .same rfl rfl rfl

theorem afterCommand_onward (s : State) : Onward s (afterCommand s) := by
  unfold afterCommand
  split <;> exact .same rfl rfl rfl

theorem afterData_onward (s : State) : Onward s (afterData s) := by
  unfold afterData
  repeat' split
  all_goals exact .same rfl rfl rfl

theorem byteTick_onward {k : ByteKind} {put : BitPhase → CPhase} {done : State → State} (hd : ∀ s, Onward s (done s))
    (q : BitPhase) (s : State) : Onward s (byteTick k put done q s) := by
  unfold byteTick
  split
  · exact (bitAct_onward k q s).then_update rfl rfl rfl
  · exact (bitAct_onward k q s).trans (hd _)

theorem closeTick_onward (s : State) : Onward s (closeTick s) := by
  unfold closeTick
  split <;> exact (recordEvent_onward _ s).then_update rfl rfl rfl

theorem settleTick_onward (s : State) : Onward s (settleTick s) := by
  unfold settleTick
  repeat' split
  all_goals exact .same rfl rfl rfl

theorem finishTick_onward (s : State) : Onward s (finishTick s) := by
  unfold finishTick
  split
  · exact (releaseLock_onward _ _).from_update rfl rfl rfl
  · exact (releaseLock_onward .rtc s).then_update rfl rfl rfl

theorem windowTick_onward (s : State) : Onward s (windowTick s) := by
  unfold windowTick
  cases s.rtc.phase with
  | rest => exact .same rfl rfl rfl
  | lead | trail => exact (delay_onward _ s).then_update rfl rfl rfl
  | command q => exact byteTick_onward afterCommand_onward q s
  | data q => exact byteTick_onward afterData_onward q s
  | close => exact closeTick_onward s
  | settle => exact settleTick_onward s
  | finish => exact finishTick_onward s

theorem decodeClock_onward (s : State) : Onward s (decodeClock s) := by
  obtain ⟨v, _, h⟩ | ⟨_, h⟩ := decodeClock_cases s <;> rw [h] <;> exact .same rfl rfl rfl

theorem rtcTick_onward (s : State) : Onward s (rtcTick s) := by
  unfold rtcTick
  split
  · exact .refl s
  · exact decodeClock_onward s
  · exact onward_ite (.same rfl rfl rfl) (.refl s)
  · exact windowTick_onward s

theorem runRtc_onward (n : Nat) (s : State) : Onward s (runRtc n s) := by
  induction n generalizing s with
  | zero => exact .refl s
  | succ n ih => exact onward_ite (.refl s) ((rtcTick_onward s).trans (ih _))

theorem untilByte_onward (n : Nat) (s : State) : Onward s (untilByte n s) := by
  induction n generalizing s with
  | zero => exact .refl s
  | succ n ih => exact onward_ite (rtcTick_onward s) ((rtcTick_onward s).trans (ih _))

theorem rtcByte_onward (s : State) : Onward s (rtcByte s) := untilByte_onward 48 s

theorem displace_onward (s : State) : Onward s (displace s) := onward_ite (.same rfl rfl rfl) (.refl s)

theorem startRead_onward (s : State) : Onward s (startRead s) := (displace_onward s).then_update rfl rfl rfl

theorem startWrite_onward (v : ClockValue) (s : State) : Onward s (startWrite v s) :=
  (displace_onward s).trans (onward_ite (.same rfl rfl rfl) (.same rfl rfl rfl))

theorem openWindow_onward (s : State) : Onward s (openWindow s) :=
  (delay_onward _ _).from_update rfl rfl rfl

theorem closeWindow_onward (s : State) : Onward s (closeWindow s) :=
  (delay_onward _ s).then_update rfl rfl rfl

theorem pairOpen_onward (cmd : Byte) (s : State) : Onward s (pairOpen cmd s) :=
  (openWindow_onward s).trans (writeByte_onward _ _ _)

theorem pairClose_onward (cmd v : Byte) (s : State) : Onward s (pairClose cmd v s) :=
  (writeByte_onward false v s).trans <| (closeWindow_onward _).trans <|
    (recordEvent_onward _ _).from_update rfl rfl rfl

theorem burstBytes_onward (n j : Nat) (s : State) : Onward s (burstBytes n j s) := by
  induction n generalizing j s with
  | zero => exact .refl s
  | succ n ih =>
    rw [burstBytes]
    refine Onward.trans ?_ (ih _ _)
    split
    next hj =>
      refine .trans (.trans ?_ (readByte_onward _)) (storeByte_onward ⟨j, hj⟩ _)
      exact .same rfl rfl rfl
    next => exact .refl s

theorem burstRead_onward (s : State) : Onward s (burstRead s) := by
  unfold burstRead
  refine .trans (.trans (.trans (.trans (openWindow_onward s) ?_) (writeByte_onward _ _ _)) (burstBytes_onward 8 0 _))
    ((closeWindow_onward _).trans (recordEvent_onward _ _))
  exact .same rfl rfl rfl

theorem dataByte_onward (j : Fin 8) (b : Byte) (s : State) : Onward s (dataByte j b s) := by
  unfold dataByte
  repeat' split
  · exact (rtcByte_onward _).from_update rfl rfl rfl
  · exact .refl s
  · exact inPlace_onward _ (rtcByte_onward s)
  · exact .refl s
  · exact .refl s

/-! ### The sensor engine -/

theorem waitLevel_onward (v : Bool) (s : State) : Onward s (waitLevel v s) :=
  (timeTo_onward _ s).then_update rfl rfl rfl

theorem sampleLine_onward (s : State) : Onward s (sampleLine s) := (timeTo_onward _ s).then_update rfl rfl rfl

theorem sensorExit_onward (s : State) : Onward s (sensorExit s) := by
  rw [sensorExit_eq]
  exact .same rfl rfl rfl

theorem raiseSensor_onward (e : ErrCode) (k : Nat) (s : State) : Onward s (raiseSensor e k s) := by
  unfold raiseSensor
  rw [sensorExit_eq]
  exact .same rfl rfl rfl

theorem finishSensor_onward (s : State) : Onward s (finishSensor s) :=
  (sensorExit_onward _).from_update rfl rfl rfl

theorem waitThen_onward (v : Bool) {onward : State → State} (ho : ∀ s, Onward s (onward s)) (s : State) :
    Onward s (waitThen v onward s) := by
  obtain ⟨_, h⟩ | ⟨_, h⟩ := waitThen_cases v onward s <;> rw [h]
  · exact (waitLevel_onward v s).trans (ho _)
  · exact (waitLevel_onward v s).trans ((recordEvent_onward _ _).trans (raiseSensor_onward _ _ _))

theorem afterBit_onward (i : Fin 40) (s : State) : Onward s (afterBit i s) := by
  unfold afterBit
  split
  · exact .same rfl rfl rfl
  · exact (recordEvent_onward _ s).then_update rfl rfl rfl

theorem sensorTick_onward (want : Option Nat) (s : State) : Onward s (sensorTick want s) := by
  unfold sensorTick
  cases s.sensor.seq with
  | idle => exact .refl s
  | wake | release => exact (timeTo_onward _ s).then_update rfl rfl rfl
  | hs1 | hs2 | hs3 | bitHi i =>
    refine waitThen_onward _ (fun _ => ?_) s
    exact .same rfl rfl rfl
  | bitSample i => exact (sampleLine_onward s).then_update rfl rfl rfl
  | bitLo i => exact waitThen_onward _ (afterBit_onward i) s
  | check => exact onward_ite (finishSensor_onward s) (raiseSensor_onward _ _ s)

theorem runSensor_onward (n : Nat) (s : State) : Onward s (runSensor n s) := by
  induction n generalizing s with
  | zero => exact .refl s
  | succ n ih => exact onward_ite (.refl s) ((sensorTick_onward none s).trans (ih _))

theorem startSensor_onward (s : State) : Onward s (startSensor s) := .same rfl rfl rfl

theorem frameByte_onward (n : Fin 5) (b : Byte) (s : State) : Onward s (frameByte n b s) := by
  unfold frameByte
  repeat' split
  · have h := runSensor_onward 24 { s with env.sensorIn := [.frame ((Vector.replicate 5 0).set n.val b)] }
    exact ⟨h.time, h.cfg, h.history, h.rioLog⟩
  · exact .refl s
  · exact .refl s

/-! ### Instructions -/

theorem next_onward {s t u : State} (h : (.next u : Host.Outcome State Fault Refusal) = .next t)
    (hu : Onward s u) : Onward s t := by
  cases h; exact hu

theorem taskOnly_onward {r : Refusal} {s t u : State} (h : taskOnly r s (.next u) = .next t) (hu : Onward s u) :
    Onward s t :=
  next_onward (taskOnly_next h).2 hu

theorem busStep_onward {f : State → State} {s t : State} (h : busStep f s = .next t) (hf : Onward s (f s)) :
    Onward s t :=
  taskOnly_onward h hf

theorem execReadSensor_onward {s t : State} (h : execReadSensor s = .next t) : Onward s t :=
  busStep_onward h (onward_ite ((startSensor_onward s).trans (runSensor_onward _ _)) (.same rfl rfl rfl))

theorem execReadClock_onward {s t : State} (h : execReadClock s = .next t) : Onward s t :=
  busStep_onward h (onward_ite ((startRead_onward s).trans (runRtc_onward _ _)) (.same rfl rfl rfl))

theorem execWriteClock_onward {v : ClockValue} {s t : State} (h : execWriteClock v s = .next t) : Onward s t :=
  busStep_onward h (onward_ite ((startWrite_onward v s).trans (runRtc_onward _ _)) (.same rfl rfl rfl))

theorem execRtcPair_onward {cmd v : Byte} {s t : State} (h : execRtcPair cmd v s = .next t) : Onward s t :=
  busStep_onward h ((pairOpen_onward cmd s).trans (pairClose_onward cmd v _))

theorem execErrOK_onward {s t : State} (h : execErrOK s = .next t) : Onward s t :=
  busStep_onward h (onward_ite (sensorTick_onward none s) (inPlace_onward _ (rtcTick_onward s)))

theorem execErrRangeError_onward {s t : State} (h : execErrRangeError s = .next t) : Onward s t := by
  refine busStep_onward h ?_
  cases s.rtc.seq with
  | rDecode => exact inPlace_onward _ (rtcTick_onward s)
  | wCheck => exact inPlace_onward _ (.same rfl rfl rfl)
  | _ => exact .refl s

/-- Every instruction goes onward. -/
theorem exec_onward {i : Instr} {s t : State} (h : exec i s = .next t) : Onward s t := by
  cases i
  case readSensor => exact execReadSensor_onward h
  case readClock => exact execReadClock_onward h
  case writeClock v => exact execWriteClock_onward h
  case evPop => exact taskOnly_onward h (pop_onward s)
  case evWaitRead => exact taskOnly_onward h (onward_ite (takeRecord_onward s) (.same rfl rfl rfl))
  case rotEnable | rotDisable => exact taskOnly_onward h (.same rfl rfl rfl)
  case encEdge a b => exact next_onward h (encoderEdge_onward a b s)
  case btnEdge l => exact next_onward h (buttonEdge_onward l s)
  case hostopReserved | errTransportError => cases h
  case waitLevel v => exact busStep_onward h (waitLevel_onward v s)
  case sample => exact busStep_onward h (sampleLine_onward s)
  case rtcWriteByte b => exact busStep_onward h (writeByte_onward false b s)
  case rtcReadByte => exact busStep_onward h (readByte_onward s)
  case rtcPair cmd v => exact execRtcPair_onward h
  case burstRead => exact busStep_onward h (burstRead_onward s)
  case evPush e => exact next_onward h ((inHandler_push e s).symm ▸ push_onward e s)
  case cmdBurstRead | cmdWrSeconds | cmdWrMinutes | cmdWrHours | cmdWrDay | cmdWrMonth | cmdWrWeekday | cmdWrYear
      | cmdWrControl | wpOff | wpOn =>
    exact busStep_onward h (inPlace_onward _ (rtcByte_onward s))
  case rdataSeconds | rdataMinutes | rdataHours | rdataDay | rdataMonth | rdataWeekday | rdataYear | rdataControl =>
    exact busStep_onward h (dataByte_onward _ _ s)
  case sframeHumInt | sframeHumFrac | sframeTempInt | sframeTempFrac | sframeChecksum =>
    exact busStep_onward h (frameByte_onward _ _ s)
  case q_00_00 | q_00_01 | q_00_10 | q_00_11 | q_01_00 | q_01_01 | q_01_10 | q_01_11 | q_10_00 | q_10_01 | q_10_10
      | q_10_11 | q_11_00 | q_11_01 | q_11_10 | q_11_11 =>
    exact next_onward h (inPlace_onward _ (encoderEdge_onward _ _ s))
  case evNone | evRotateCW | evRotateCCW | evButtonDown | evButtonUp =>
    exact taskOnly_onward h (inPlace_onward _ (pop_onward s))
  case lrecNone | lrecRotPlus | lrecRotMinus | lrecBtn =>
    exact taskOnly_onward h (inPlace_onward _ (takeRecord_onward s))
  case errOK => exact execErrOK_onward h
  case errTimeout | errChecksumMismatch => exact busStep_onward h (inPlace_onward _ (sensorTick_onward none s))
  case errRangeError => exact execErrRangeError_onward h

/-! ### Agents and the step -/

theorem startRequest_onward (r : Request) (s : State) : Onward s (startRequest r s) := by
  cases r with
  | readSensor => exact startSensor_onward s
  | readClock => exact startRead_onward s
  | writeClock v => exact startWrite_onward v s

theorem serveLate_onward (src : Source) (s : State) : Onward s (serveLate src s) := by
  unfold serveLate
  split
  · refine (Onward.same rfl rfl rfl : Onward s { s with ctl.pend := s.ctl.pend.clear src }).trans ?_
    cases src with
    | btn => exact buttonEdge_onward _ _
    | encA | encB => exact encoderEdge_onward _ _ _
  · exact .refl s

theorem grantRequest_onward (n : Nat) (s : State) : Onward s (grantRequest n s) := by
  unfold grantRequest
  split
  · exact onward_ite ((startRequest_onward _ _).from_update rfl rfl rfl) (.refl s)
  · exact .refl s

theorem agentStep_onward (p : Pick) (s : State) : Onward s (agentStep p s) := by
  cases p with
  | sensor want => exact sensorTick_onward want s
  | rtc => exact rtcTick_onward s
  | grant n => exact grantRequest_onward n s
  | reader => exact onward_ite ((takeRecord_onward _).from_update rfl rfl rfl) (.refl s)
  | late src => exact serveLate_onward src s

theorem runPick_onward (p : Pick) (s : State) : Onward s (runPick p s) := onward_ite (agentStep_onward p s) (.refl s)

theorem goOn_onward (s : State) : Onward s (goOn s) := by
  unfold goOn
  split
  · exact runPick_onward _ s
  · exact .refl s

theorem serveLine_onward (l : Line) (s : State) : Onward s (serveLine l s) := by
  unfold serveLine
  obtain ⟨e, h, _⟩ := installAll_env l.env { timeTo (l.time.getD 0) (dropItem s) with ctl.ctx := l.ctx }
  rw [h]
  exact (timeTo_onward (l.time.getD 0) s).then_update rfl rfl rfl

/-- A line's instruction is executed, or it is a bus operation that is only issued (log 8). -/
theorem runLine_cases (l : Line) (i : Instr) (s : State) :
    ((l.mode = .run ∨ requestOf i = none) ∧ runLine l i s = exec i s) ∨
    ∃ r, l.mode = .issue ∧ requestOf i = some r ∧ runLine l i s = issueRequest r s := by
  unfold runLine
  cases l.mode <;> cases requestOf i <;> simp

theorem runLine_onward {l : Line} {i : Instr} {s t : State} (h : runLine l i s = .next t) : Onward s t := by
  obtain ⟨_, e⟩ | ⟨r, _, _, e⟩ := runLine_cases l i s <;> rw [e] at h
  · exact exec_onward h
  · exact busStep_onward h (onward_ite (startRequest_onward r s) (.same rfl rfl rfl))

theorem backToTask_next {o : Host.Outcome State Fault Refusal} {t : State} (h : backToTask o = .next t) :
    ∃ u, o = .next u ∧ t = { u with ctl.ctx := .task } := by
  cases o <;> cases h
  exact ⟨_, rfl, rfl⟩

theorem takeLine_onward {l : Line} {s t : State} (h : takeLine l s = .next t) : Onward s t := by
  obtain ⟨_, _, e⟩ | ⟨i, _, _, ⟨_, _, e⟩ | ⟨_, _, e⟩ | ⟨_, _, e⟩⟩ := takeLine_cases l s <;> rw [e] at h
  · cases h
  · cases h
  · exact next_onward h (sensorTick_onward none s)
  · obtain ⟨u, hu, rfl⟩ := backToTask_next h
    exact (serveLine_onward l s).trans ((runLine_onward hu).then_update rfl rfl rfl)

theorem step_onward {s t : State} (h : step s = .next t) : Onward s t := by
  match hs : s.env.script with
  | [] => rw [step_goOn hs] at h; exact next_onward h (goOn_onward s)
  | .pick p :: _ =>
    rw [step_pick hs] at h
    exact next_onward h ((runPick_onward p (dropItem s)).from_update rfl rfl rfl)
  | .line l :: _ => rw [step_line hs] at h; exact takeLine_onward h
  | .stepEdge n cw :: _ => rw [step_stepEdge hs] at h; exact takeLine_onward h

/-- Settles O11: each thing a step can do goes onward. -/
theorem stepKeepsTimeParametersHistory : Obligations.StepKeepsTimeParametersHistory := by
  intro s t h
  obtain ⟨htime, hcfg, hhistory, hrioLog⟩ := step_onward h
  exact ⟨htime, hcfg, hhistory, hrioLog⟩

end Sys2Proof.Machine

/-! ## The step runs the decoded instruction, and reset is sound (O7, O10) -/

namespace Sys2Proof.Machine

/-- Serving a line leaves the state that `LineServed` describes (R74, R116, R311). -/
theorem serveLine_served {l : Line} {items : List Item} {s : State} (h : s.env.script = .line l :: items) :
    LineServed l items s (serveLine l s) := by
  unfold serveLine
  obtain ⟨e, he, hscript, hsensor, hrio, hnone⟩ :=
    installAll_env l.env { timeTo (l.time.getD 0) (dropItem s) with ctl.ctx := l.ctx }
  rw [he]
  have htail : (dropItem s).env = { s.env with script := items } := by rw [dropItem_env, h, List.tail_cons]
  exact
    { script := hscript.trans (congrArg Env.script htail)
      time := rfl
      ctl := rfl
      no_news := fun hn => (hnone hn).trans htail
      sensor_in := hsensor
      rio_in := hrio
      sensor := rfl
      rtc := rfl
      quad := rfl
      button := rfl
      chan := rfl
      pins := rfl
      aux := rfl
      trace := rfl
      cfg := rfl }

/-- Serving a line that tells nothing of the environment, as a whole state. -/
theorem serveLine_no_news {l : Line} {items : List Item} {s : State} (h : s.env.script = .line l :: items)
    (hn : l.env = []) :
    serveLine l s =
      { s with env.script := items, time := max s.time (l.time.getD 0), ctl.ctx := l.ctx } := by
  rw [serveLine, hn, installAll, timeTo, dropItem, h, List.tail_cons]

/-- The sensor engine is never due before the present TIME (R45). -/
theorem engineDue_now (s : State) : engineDue (some s.time) s = false :=
  decide_eq_false (Nat.not_lt.mpr (sensorTick_onward none s).time)

/-- So a line at the present TIME is held back in the critical section only, and not if it may be served there (R304,
R308). -/
theorem heldBack_now {l : Line} {i : Instr} {s : State} (ht : l.time = some s.time)
    (hm : s.ctl.mask = false ∨ servedMasked i = true) : heldBack l i s = false := by
  unfold heldBack
  rw [ht, engineDue_now]
  obtain hm | hm := hm <;> simp [hm]

/-- A line that decodes, an ENC or BTN line with its TIME: the sensor engine's micro-step where it must move before the
line, else the line's instruction in the state in which the line is served (R116, R134, R308). -/
theorem takeLine_decoded {l : Line} {i : Instr} {rest : List Byte} {s : State}
    (hd : decode s.cfg l.fmt l.bytes = .ok (i, rest)) (ht : needsTime i = true → l.time ≠ none) :
    takeLine l s =
      if heldBack l i s then .next (sensorTick none s) else backToTask (runLine l i (serveLine l s)) := by
  obtain ⟨e, he, _⟩ | ⟨j, _, hj, h⟩ := takeLine_cases l s
  · rw [hd] at he; cases he
  · rw [hd] at hj
    cases hj
    obtain ⟨hn, hl, _⟩ | ⟨_, hb, h⟩ | ⟨_, hb, h⟩ := h
    · exact absurd hl (ht hn)
    · rw [h, hb, if_pos rfl]
    · rw [h, hb, if_neg Bool.false_ne_true]

/-- A line that is run, or that is no bus operation, is executed (log 8). -/
theorem runLine_exec {l : Line} {i : Instr} (h : l.mode = .run ∨ requestOf i = none) (s : State) :
    runLine l i s = exec i s := by
  obtain ⟨_, e⟩ | ⟨r, hi, hq, _⟩ := runLine_cases l i s
  · exact e
  · simp [hi, hq] at h

theorem takeLine_exec {l : Line} {i : Instr} {rest : List Byte} {s : State}
    (hd : decode s.cfg l.fmt l.bytes = .ok (i, rest)) (ht : needsTime i = true → l.time ≠ none)
    (hb : heldBack l i s = false) (hr : l.mode = .run ∨ requestOf i = none) :
    takeLine l s = backToTask (exec i (serveLine l s)) := by
  rw [takeLine_decoded hd ht, hb, if_neg Bool.false_ne_true, runLine_exec hr]

/-- The raw state one step on, with the direction as `DIR_SWAP` exchanges it (R117). -/
theorem cycleStep_eq (dirSwap cw : Bool) (q : RawState) :
    cycleStep dirSwap cw q = if cw = dirSwap then cyclePrev q else cycleNext q := by
  cases dirSwap <;> cases cw <;> rfl

/-- The line of STEP_CW and STEP_CCW is read as its ENC operation (R117). -/
theorem decode_stepLine (t : Nat) (cw : Bool) (s : State) :
    let q := if cw = s.cfg.dirSwap then cyclePrev s.quad.prev else cycleNext s.quad.prev
    decode s.cfg (stepLine t cw s).fmt (stepLine t cw s).bytes =
      .ok (.encEdge (q.getLsbD 1) (q.getLsbD 0), []) := by
  intro q
  have hq : cycleStep s.cfg.dirSwap cw s.quad.prev = q := cycleStep_eq _ _ _
  have h := Codes.decode_encode_hostop s.cfg (i := .encEdge (q.getLsbD 1) (q.getLsbD 0)) rfl rfl []
  rw [List.append_nil] at h
  rw [← h, ← hq]
  rfl

/-- A word of the opcode table placed at the head of the script (log 10). -/
theorem withFetchWord_eq {s : State} {nbits w : Nat} {f : Format} (h : tableFormat s.cfg nbits w = some f) :
    s.withFetchWord nbits w =
      { s with env.script := .line (plainLine s.time f (tableBytes nbits w)) :: s.env.script } := by
  rw [State.withFetchWord, h]

/-- Settles O7: a line, a pseudo-operation and a word of the table are each a line that is served. -/
theorem stepRunsDecodedInstruction : Obligations.StepRunsDecodedInstruction := by
  refine ⟨?_, ?_, ?_⟩
  · intro s l items i rest hs hd _ ht
    rw [step_line hs]
    exact ⟨fun hb => (takeLine_decoded hd ht).trans (if_pos hb),
      fun hb hr => ⟨takeLine_exec hd ht hb hr, serveLine_served hs⟩⟩
  · intro s t cw items q hs hb
    rw [step_stepEdge hs, takeLine_exec (decode_stepLine t cw s) (by simp [stepLine, encLine, lineOf]) hb (.inl rfl)]
    rw [serveLine, dropItem, hs]
    rfl
  · intro s nbits w f i rest hf hd _ hm
    constructor
    · intro hc
      rw [hc] at hf hd
      simp only [decodeTableWord, hf, hd]
    · rw [withFetchWord_eq hf, step_line rfl]
      have hl (_ : needsTime i = true) : (plainLine s.time f (tableBytes nbits w)).time ≠ none := Option.some_ne_none _
      refine (takeLine_exec (rest := rest) ?_ hl ?_ (.inl rfl)).trans ?_
      · exact hd
      · exact heldBack_now rfl hm
      · rw [serveLine_no_news rfl rfl]
        simp [plainLine]

/-- The reset values meet each field of the invariant (R47, R330). -/
theorem resetWith_inv {p : Params} (h : 1 ≤ p.nDetent) : Inv (resetWith p) := by
  constructor
  case acc_inside => exact ⟨by simp only [resetWith]; omega, by simp only [resetWith]; omega⟩
  all_goals
    simp [resetWith, rtcHolds, inCritical, sdataDriveAt, phaseFits, windowOpen, clockHigh, byteInFlight, bitsReceivedAt]

/-- The default parameters are as R6, R101 and D8 ask, whatever the OPEN N_DETENT is. -/
theorem standard_wf : Params.standard.wf = true := by
  have hn : 1 ≤ Params.standard.nDetent := Nat.le_add_left 1 _
  have hc : Params.standard.commands.Nodup := by decide
  have hw : Params.standard.waitMaxIter = Params.standard.tWaitBudget / Params.standard.tPoll := rfl
  simp [Params.wf, hn, hc, ← hw]

/-- Settles O10: the reset state of any allowed parameters is sound, and the default ones are allowed. -/
theorem resetMeetsInvariant : Obligations.ResetMeetsInvariant :=
  ⟨fun _ => resetWith_inv, standard_wf, resetWith_inv (Nat.le_add_left 1 _)⟩

end Sys2Proof.Machine

/-! ## The micro-steps of the RTC engine, each a whole state (O41) -/

namespace Sys2Proof.Machine

/-! ### Where the engine holds the lock, its micro-step is that of its phase -/

section Phase

variable {s : State} (hs : rtcHolds s.rtc.seq = true)
include hs

theorem rtcTick_window : rtcTick s = windowTick s := by
  unfold rtcTick
  cases h : s.rtc.seq <;> simp [h, rtcHolds] at hs ⊢

theorem rtcTick_rest (hp : s.rtc.phase = .rest) : rtcTick s = phaseTo .lead (setRce true s) := by
  simp only [rtcTick_window hs, windowTick, hp]

theorem rtcTick_lead (hp : s.rtc.phase = .lead) :
    rtcTick s = phaseTo (.command .load) (delay s.cfg.tHalfbit s) := by
  simp only [rtcTick_window hs, windowTick, hp]

theorem rtcTick_command {q : BitPhase} (hp : s.rtc.phase = .command q) :
    rtcTick s = byteTick (commandKind s) .command afterCommand q s := by
  simp only [rtcTick_window hs, windowTick, hp]

theorem rtcTick_data {q : BitPhase} (hp : s.rtc.phase = .data q) :
    rtcTick s = byteTick (dataKind s) .data afterData q s := by
  simp only [rtcTick_window hs, windowTick, hp]

theorem rtcTick_trail (hp : s.rtc.phase = .trail) : rtcTick s = phaseTo .close (delay s.cfg.tHalfbit s) := by
  simp only [rtcTick_window hs, windowTick, hp]

theorem rtcTick_close (hp : s.rtc.phase = .close) : rtcTick s = closeTick s := by
  simp only [rtcTick_window hs, windowTick, hp]

theorem rtcTick_settle (hp : s.rtc.phase = .settle) : rtcTick s = settleTick s := by
  simp only [rtcTick_window hs, windowTick, hp]

theorem rtcTick_finish (hp : s.rtc.phase = .finish) : rtcTick s = finishTick s := by
  simp only [rtcTick_window hs, windowTick, hp]

end Phase

/-! ### What follows a byte or a window, by position -/

theorem rtcHolds_pair {s : State} {p : Fin 9} (hs : s.rtc.seq = .wPair p) : rtcHolds s.rtc.seq = true := by
  rw [hs]; rfl

theorem rtcHolds_readCommand {s : State} (hs : s.rtc.seq = .rCmd) : rtcHolds s.rtc.seq = true := by
  rw [hs]; rfl

theorem rtcHolds_readData {s : State} {j : Fin 8} (hs : s.rtc.seq = .rData j) : rtcHolds s.rtc.seq = true := by
  rw [hs]; rfl

section Pair

variable {s : State} {p : Fin 9} (hs : s.rtc.seq = .wPair p)
include hs

theorem commandKind_pair : commandKind s = .out (pairCommand s.cfg p) false := by
  simp only [commandKind, hs]

theorem dataKind_pair : dataKind s = .out (pairData s.cfg s.rtc.wbuf p) false := by
  simp only [dataKind, hs]

theorem afterCommand_pair : afterCommand s = phaseTo (.data .load) s := by
  simp only [afterCommand, hs]

theorem afterData_pair : afterData s = phaseTo .trail s := by
  simp only [afterData, hs]

theorem closeTick_pair :
    closeTick s =
      phaseTo .settle
        (recordEvent (.memWrite (pairCommand s.cfg p) (pairData s.cfg s.rtc.wbuf p)) (setRce false s)) := by
  simp only [closeTick, hs]

theorem settleTick_next (h : p.val + 1 < 9) :
    settleTick s = rtcTo (.wPair ⟨p.val + 1, h⟩) .rest (driveRio .input s) := by
  simp only [settleTick, hs, dif_pos h]

theorem settleTick_last (h : p.val = 8) : settleTick s = phaseTo .finish (driveRio .input s) := by
  simp only [settleTick, hs, h, Nat.lt_irrefl, dite_false]

theorem finishTick_pair : finishTick s = finishWrite s := by
  simp only [finishTick, hs]

end Pair

theorem commandKind_read {s : State} (hs : s.rtc.seq = .rCmd) : commandKind s = .out s.cfg.cmdBurstRead true := by
  simp only [commandKind, hs]

theorem afterCommand_read {s : State} (hs : s.rtc.seq = .rCmd) :
    afterCommand s = rtcTo (.rData 0) (.data .load) s := by
  simp only [afterCommand, hs]

section ReadData

variable {s : State} {j : Fin 8} (hs : s.rtc.seq = .rData j)
include hs

theorem dataKind_read : dataKind s = .into := by
  simp only [dataKind, hs]

/-- The byte received goes to its place, and the next byte follows, or the end of the window (R166). -/
theorem afterData_read :
    afterData s =
      rtcTo (if h : j.val + 1 < 8 then .rData ⟨j.val + 1, h⟩ else .rData j)
        (if j.val + 1 < 8 then .data .load else .trail) (storeByte j s) := by
  simp only [afterData, hs]
  split
  · rfl
  · rw [rtcTo, ← hs]; rfl

theorem closeTick_read :
    closeTick s = phaseTo .finish (recordEvent (.memRead s.cfg.cmdBurstRead s.rtc.cbuf) (setRce false s)) := by
  simp only [closeTick, hs]

theorem finishTick_read : finishTick s = rtcTo .rDecode .rest (releaseLock .rtc s) := by
  simp only [finishTick, hs]

end ReadData

/-- Releasing the lock as one write of it. -/
theorem releaseLock_eq (e : Engine) (s : State) :
    releaseLock e s = { s with ctl.lock := if s.ctl.lock = .held e then .free else s.ctl.lock } := by
  obtain ⟨h, heq⟩ | ⟨h, heq⟩ := releaseLock_cases e s <;> rw [heq]
  · rw [if_pos h]
  · rw [if_neg h]

/-! ### The micro-steps of a byte -/

/-- A micro-step of a byte that is not its last (R163, R164, R167). -/
theorem byteTick_next {k : ByteKind} {q q' : BitPhase} {s : State}
    (hn : nextPhase k q (bitAct k q s).rtc.bitcnt = some q') (put : BitPhase → CPhase) (done : State → State) :
    byteTick k put done q s = phaseTo (put q') (bitAct k q s) := by
  rw [byteTick, hn]

/-- The last micro-step of a byte, the fall of the eighth clock, and what follows it (R163, R164). -/
theorem byteTick_last {s : State} (h : s.rtc.bitcnt = 7) (k : ByteKind) (put : BitPhase → CPhase)
    (done : State → State) :
    byteTick k put done .fall s = done { s with pins.rclk := false, rtc.bitcnt := 8 } := by
  simp [byteTick, nextPhase, bitAct, clockFall, h]

/-- After the fall of any clock but the eighth comes the next bit (R163, R164). -/
theorem nextPhase_fall (k : ByteKind) {n : Nat} (h : n < 7) : nextPhase k .fall (n + 1) = some k.bitStart :=
  if_pos (Nat.succ_lt_succ h)

/-- After the rising edge: the turn-around, in the eighth clock of a read's command, else the high half-bit (R167). -/
theorem nextPhase_rise_out (b : Byte) (turn : Bool) (n : Nat) :
    nextPhase (.out b turn) .rise n = some (if turn = true ∧ n = 7 then .turn else .high) := by
  cases turn <;> simp [nextPhase, apply_ite]

/-- The three bytes the block sends: the command and the data of a pair (R165), and the command of a read, the one with
the turn-around (R166, R167). -/
theorem rtcTick_byteOut {s : State} {put : BitPhase → CPhase} {b : Byte} {turn : Bool}
    (h : (turn = false ∧ ∃ p, s.rtc.seq = .wPair p ∧
        (put = .command ∧ b = pairCommand s.cfg p ∨ put = .data ∧ b = pairData s.cfg s.rtc.wbuf p)) ∨
      (turn = true ∧ s.rtc.seq = .rCmd ∧ put = .command ∧ b = s.cfg.cmdBurstRead))
    {q q' : BitPhase} (hp : s.rtc.phase = put q)
    (hn : nextPhase (.out b turn) q (bitAct (.out b turn) q s).rtc.bitcnt = some q') :
    rtcTick s = phaseTo (put q') (bitAct (.out b turn) q s) := by
  obtain ⟨rfl, p, hs, ⟨rfl, rfl⟩ | ⟨rfl, rfl⟩⟩ | ⟨rfl, hs, rfl, rfl⟩ := h
  · rw [rtcTick_command (rtcHolds_pair hs) hp, commandKind_pair hs, byteTick_next hn]
  · rw [rtcTick_data (rtcHolds_pair hs) hp, dataKind_pair hs, byteTick_next hn]
  · rw [rtcTick_command (rtcHolds_readCommand hs) hp, commandKind_read hs, byteTick_next hn]

/-- A byte of a burst read (R164, R166). -/
theorem rtcTick_byteIn {s : State} {j : Fin 8} (hs : s.rtc.seq = .rData j) {q q' : BitPhase}
    (hp : s.rtc.phase = .data q) (hn : nextPhase .into q (bitAct .into q s).rtc.bitcnt = some q') :
    rtcTick s = phaseTo (.data q') (bitAct .into q s) := by
  rw [rtcTick_data (rtcHolds_readData hs) hp, dataKind_read hs, byteTick_next hn]

/-- The level presented is what an undriven RIO reads (R164, log 5). -/
theorem rioLevel_presented {s : State} {level : Bool} {rest : List Bool} (hr : s.pins.rio = .input)
    (he : s.env.rioIn = level :: rest) : rioLevel s = level := by
  simp [rioLevel, hr, he]

/-- A bit put where the byte has none yet is the bit there, the others staying (R164). -/
theorem putBit_getLsbD_of_clear {v : Byte} {i : Nat} (hv : ∀ n, i ≤ n → v.getLsbD n = false) (bit : Bool) {n : Nat}
    (hn : n < 8) : (putBit v i bit).getLsbD n = if n = i then bit else v.getLsbD n := by
  rw [putBit_getLsbD _ _ _ _ hn]
  split
  next h => simp [h, hv i (Nat.le_refl i)]
  next h => simp [h]

/-- Settles O41: each micro-step is its phase's, as the position directs it. -/
theorem rtcMicroStepIsOnePrimitive : Obligations.RtcMicroStepIsOnePrimitive := by
  intro s i bit later freed
  refine ⟨?byteOut, ?pair, ?readCommand, ?readData, ?wCheck, ?decode, ?idle⟩
  case byteOut =>
    intro put b turn h
    exact ⟨fun hp => rtcTick_byteOut h hp rfl, fun hp => rtcTick_byteOut h hp rfl, fun hp => rtcTick_byteOut h hp rfl,
      fun hp => (rtcTick_byteOut h hp (nextPhase_rise_out b turn i)).trans (by rw [apply_ite put]; rfl),
      fun _ hp => rtcTick_byteOut h hp rfl, fun hp => rtcTick_byteOut h hp rfl,
      fun hp hi => rtcTick_byteOut h hp (nextPhase_fall _ hi)⟩
  case pair =>
    intro p hs
    have hh := rtcHolds_pair hs
    refine ⟨rtcTick_rest hh, rtcTick_lead hh, fun hp hi => ?_, fun hp hi => ?_, rtcTick_trail hh, fun hp => ?_,
      fun h hp => ?_, fun h hp => ?_, fun hp => ?_⟩
    · rw [rtcTick_command hh hp, byteTick_last hi]
      exact afterCommand_pair hs
    · rw [rtcTick_data hh hp, byteTick_last hi]
      exact afterData_pair hs
    · exact (rtcTick_close hh hp).trans (closeTick_pair hs)
    · exact (rtcTick_settle hh hp).trans (settleTick_next hs h)
    · exact (rtcTick_settle hh hp).trans (settleTick_last hs h)
    · rw [rtcTick_finish hh hp, finishTick_pair hs]
      exact releaseLock_eq .rtc _
  case readCommand =>
    intro hs
    have hh := rtcHolds_readCommand hs
    refine ⟨rtcTick_rest hh, rtcTick_lead hh, fun hp hi => ?_⟩
    rw [rtcTick_command hh hp, byteTick_last hi]
    exact afterCommand_read hs
  case readData =>
    intro j hs
    have hh := rtcHolds_readData hs
    refine ⟨fun hp => rtcTick_byteIn hs hp rfl, fun hp => rtcTick_byteIn hs hp rfl, fun level rest hp hr _ hv he => ?_,
      fun hp => rtcTick_byteIn hs hp rfl, fun hp => rtcTick_byteIn hs hp rfl,
      fun hp hi => rtcTick_byteIn hs hp (nextPhase_fall _ hi), fun hp hi => ?_, fun _ => rtcTick_trail hh,
      fun _ hp => (rtcTick_close hh hp).trans (closeTick_read hs), fun _ hp => ?_⟩
    · refine ⟨putBit s.rtc.shift i level, fun n => putBit_getLsbD_of_clear hv level, ?_⟩
      rw [rtcTick_byteIn hs hp rfl, bitAct, sampleRio, rioLevel_presented hr he, he]
      rfl
    · rw [rtcTick_data hh hp, byteTick_last hi]
      exact afterData_read hs
    · rw [rtcTick_finish hh hp, finishTick_read hs, releaseLock_eq]
      rfl
  case wCheck =>
    intro hs
    simp only [rtcTick, hs]
    rfl
  case decode =>
    intro hs
    have ht : rtcTick s = decodeClock s := by simp only [rtcTick, hs]
    rw [ht]
    obtain ⟨v, hv, h⟩ | ⟨hv, h⟩ := decodeClock_cases s <;> rw [hv, h]
    exact ⟨freeClock s.aux.freeCtr, rfl⟩
  case idle =>
    intro hs
    simp only [rtcTick, hs]

end Sys2Proof.Machine

/-! ## A frame answered to READ_SENSOR, the frame-byte codes and the read's result codes (O22, O25, O26) -/

namespace Sys2Proof.Machine

/-! ### Bits of a frame, by their byte -/

/-- Bit `m` of byte `n` is shifted into that byte (R92, R138). -/
theorem storeBit_eq_set (f : Vector Byte 5) (n : Fin 5) {m : Nat} (hm : m < 8) (h : 8 * n.val + m < 40) (bit : Bool) :
    storeBit f ⟨8 * n.val + m, h⟩ bit = f.set n.val (shiftIn f[n.val] bit) := by
  have hn : (8 * n.val + m) / 8 = n.val := by omega
  simp only [storeBit, hn]

/-- Bit `m` of byte `n` in order of arrival is its bit `7 - m` (R92). -/
theorem frameBit_eq_getLsbD (f : Vector Byte 5) (n : Fin 5) {m : Nat} (hm : m < 8) (h : 8 * n.val + m < 40) :
    frameBit f ⟨8 * n.val + m, h⟩ = f[n.val].getLsbD (7 - m) := by
  have hn : (8 * n.val + m) / 8 = n.val := by omega
  have hm' : (8 * n.val + m) % 8 = m := by omega
  simp only [frameBit, hn, hm']

/-- The bit that arrives becomes bit 0, the others move up (R92). -/
theorem shiftIn_getLsbD (v : Byte) (bit : Bool) {j : Nat} (hj : j < 8) :
    (shiftIn v bit).getLsbD j = if j = 0 then bit else v.getLsbD (j - 1) := by
  rw [shiftIn, BitVec.getLsbD_append]
  by_cases h : j = 0
  · simp [h]
  · have h1 : ¬ j < 1 := by omega
    have h7 : j - 1 < 7 := by omega
    simp [h, h1, h7]

/-! ### The engine's micro-steps against a frame given as the outcome (R62) -/

/-- `s` as a transfer has moved it on: another position, FRAME and count of bits, a later TIME, another clock of the
engine, and all else as in `s` (R139). -/
def inTransfer (s : State) (q : SSeq) (fr : Vector Byte 5) (c t : Nat) (a : Aux) : State :=
  { s with sensor := { s.sensor with seq := q, frame := fr, bitcnt := c }, time := t, aux := a }

/-- A state is itself, moved on by nothing. -/
theorem eq_inTransfer {s : State} {q : SSeq} (h : s.sensor.seq = q) :
    s = inTransfer s q s.sensor.frame s.sensor.bitcnt s.time s.aux := by
  rw [← h]; rfl

/-- A wait step finds its level at once (R62, R140). -/
theorem waitThen_frame {s : State} {f : Vector Byte 5} (ha : sensorAnswer s = .frame f) (v : Bool)
    (onward : State → State) : ∃ t a, waitThen v onward s = onward { s with time := t, aux := a } := by
  have hw : waitOutcome v s = (true, s.aux.sClock) := by simp only [waitOutcome, ha]
  obtain ⟨_, h⟩ | ⟨h, _⟩ := waitThen_cases v onward s
  · exact ⟨_, _, h⟩
  · simp [waitLevel, hw] at h

section Frame

variable {s : State} {f : Vector Byte 5} (ha : sensorAnswer s = .frame f) (i : Fin 40) (fr : Vector Byte 5)
  (c t : Nat) (a : Aux)
include ha

theorem sensorTick_bitHi_frame :
    ∃ t' a', sensorTick none (inTransfer s (.bitHi i) fr c t a) = inTransfer s (.bitSample i) fr c t' a' :=
  waitThen_frame (s := inTransfer s (.bitHi i) fr c t a) ha true (sensorTo (.bitSample i))

theorem sensorTick_bitSample_frame :
    ∃ t' a', sensorTick none (inTransfer s (.bitSample i) fr c t a) =
      inTransfer s (.bitLo i) (storeBit fr i (frameBit f i)) (i.val + 1) t' a' := by
  have ha' : sensorAnswer (inTransfer s (.bitSample i) fr c t a) = .frame f := ha
  have hl : sampleLevel (inTransfer s (.bitSample i) fr c t a) = frameBit f i := by rw [sampleLevel, ha']; rfl
  have htick : sensorTick none (inTransfer s (.bitSample i) fr c t a) =
    sampleStore i (inTransfer s (.bitSample i) fr c t a) := rfl
  exact ⟨_, _, by rw [htick, sampleStore, sampleLine, hl]; rfl⟩

theorem sensorTick_bitLo_frame :
    ∃ t' a', sensorTick none (inTransfer s (.bitLo i) fr c t a) =
      afterBit i (inTransfer s (.bitLo i) fr c t' a') :=
  waitThen_frame (s := inTransfer s (.bitLo i) fr c t a) ha false (afterBit i)

/-- The three micro-steps of a bit of the frame (R136, R138, R139). -/
theorem runSensor_bit_frame (x : Nat) :
    ∃ t' a', runSensor (x + 3) (inTransfer s (.bitHi i) fr c t a) =
      runSensor x (afterBit i (inTransfer s (.bitLo i) (storeBit fr i (frameBit f i)) (i.val + 1) t' a')) := by
  obtain ⟨t1, a1, e1⟩ := sensorTick_bitHi_frame ha i fr c t a
  obtain ⟨t2, a2, e2⟩ := sensorTick_bitSample_frame ha i fr c t1 a1
  obtain ⟨t3, a3, e3⟩ := sensorTick_bitLo_frame ha i (storeBit fr i (frameBit f i)) (i.val + 1) t2 a2
  refine ⟨t3, a3, ?_⟩
  rw [runSensor_succ (by simp [inTransfer]), e1, runSensor_succ (by simp [inTransfer]), e2,
    runSensor_succ (by simp [inTransfer]), e3]

/-- The first `m` bits of byte `n`, all but its last: they stand in the low end of what was received (R92, R138). -/
theorem runSensor_bits_frame (n : Fin 5) {m : Nat} (hm : m < 8) (x : Nat) :
    ∃ t' a' c' v, runSensor (x + 3 * m) (inTransfer s (.bitHi ⟨8 * n.val, by omega⟩) fr c t a) =
        runSensor x (inTransfer s (.bitHi ⟨8 * n.val + m, by omega⟩) (fr.set n.val v) c' t' a') ∧
      ∀ j, j < m → v.getLsbD j = f[n.val].getLsbD (8 - m + j) := by
  induction m generalizing x with
  | zero => exact ⟨t, a, c, fr[n.val], by simp, fun j hj => absurd hj (Nat.not_lt_zero j)⟩
  | succ m ih =>
    obtain ⟨t1, a1, c1, v, e1, hv⟩ := ih (by omega) (x + 3)
    obtain ⟨t2, a2, e2⟩ := runSensor_bit_frame ha ⟨8 * n.val + m, by omega⟩ (fr.set n.val v) c1 t1 a1 x
    refine ⟨t2, a2, 8 * n.val + m + 1, shiftIn v (f[n.val].getLsbD (7 - m)), ?_, fun j hj => ?_⟩
    · rw [show x + 3 * (m + 1) = x + 3 + 3 * m by omega, e1, e2, afterBit, dif_pos (by simp only; omega),
        storeBit_eq_set _ n (by omega), frameBit_eq_getLsbD f n (by omega)]
      simp only [Vector.getElem_set_self, Vector.set_set]
      rfl
    · rw [shiftIn_getLsbD _ _ (by omega)]
      split
      next h => rw [h]; congr 1; omega
      next h => rw [hv _ (by omega)]; congr 1; omega

/-- A byte of the frame, whatever FRAME held of it, in 24 micro-steps; `afterBit` follows its last bit (R92, R138). -/
theorem runSensor_byte_frame (n : Fin 5) (x : Nat) :
    ∃ t' a', runSensor (x + 24) (inTransfer s (.bitHi ⟨8 * n.val, by omega⟩) fr c t a) =
      runSensor x (afterBit ⟨8 * n.val + 7, by omega⟩
        (inTransfer s (.bitLo ⟨8 * n.val + 7, by omega⟩) (fr.set n.val f[n.val]) (8 * n.val + 8) t' a')) := by
  obtain ⟨t1, a1, c1, v, e1, hv⟩ := runSensor_bits_frame ha fr c t a n (m := 7) (by omega) (x + 3)
  obtain ⟨t2, a2, e2⟩ := runSensor_bit_frame ha ⟨8 * n.val + 7, by omega⟩ (fr.set n.val v) c1 t1 a1 x
  have hbyte : shiftIn v (f[n.val].getLsbD 0) = f[n.val] := by
    refine BitVec.eq_of_getLsbD_eq fun j hj => ?_
    rw [shiftIn_getLsbD _ _ hj]
    split
    next h => rw [h]
    next h => rw [hv _ (by omega)]; congr 1; omega
  refine ⟨t2, a2, ?_⟩
  rw [show x + 24 = x + 3 + 3 * 7 by omega, e1, e2, storeBit_eq_set _ n (by omega),
    frameBit_eq_getLsbD f n (by omega)]
  simp only [Vector.getElem_set_self, Vector.set_set, Nat.sub_self, hbyte]

end Frame

/-! ### Whole bytes, and the whole transfer -/

/-- After the last bit of any byte but the checksum comes the next byte (R131). -/
theorem afterBit_byte (s : State) {n : Nat} (hn : n < 4) (fr : Vector Byte 5) (c t : Nat) (a : Aux) :
    afterBit ⟨8 * n + 7, by omega⟩ (inTransfer s (.bitLo ⟨8 * n + 7, by omega⟩) fr c t a) =
      inTransfer s (.bitHi ⟨8 * n + 8, by omega⟩) fr c t a := by
  rw [afterBit, dif_pos (by simp only; omega)]
  rfl

/-- `s` as the end of the 40 bits of `fr` leaves it: at `CHECK`, out of the critical section, the transfer in the
history (R131, R134, R79). -/
def atCheck (s : State) (fr : Vector Byte 5) (t : Nat) (a : Aux) : State :=
  { inTransfer s .check fr 40 t a with
    ctl.mask := false
    trace.history := s.trace.history ++ [.sensorFrame fr] }

theorem afterBit_last (s : State) (fr : Vector Byte 5) (t : Nat) (a : Aux) :
    afterBit 39 (inTransfer s (.bitLo 39) fr 40 t a) = atCheck s fr t a := rfl

section Frame

variable {s : State} {f : Vector Byte 5} (ha : sensorAnswer s = .frame f) (fr : Vector Byte 5) (c t : Nat) (a : Aux)
include ha

theorem sensorTick_hs1_frame :
    ∃ t' a', sensorTick none (inTransfer s .hs1 fr c t a) = inTransfer s .hs2 fr c t' a' :=
  waitThen_frame (s := inTransfer s .hs1 fr c t a) ha false (sensorTo .hs2)

theorem sensorTick_hs2_frame :
    ∃ t' a', sensorTick none (inTransfer s .hs2 fr c t a) = inTransfer s .hs3 fr c t' a' :=
  waitThen_frame (s := inTransfer s .hs2 fr c t a) ha true (sensorTo .hs3)

/-- At the end of the handshake FRAME is cleared (R139). -/
theorem sensorTick_hs3_frame :
    ∃ t' a', sensorTick none (inTransfer s .hs3 fr c t a) =
      inTransfer s (.bitHi 0) (Vector.replicate 5 0) 0 t' a' :=
  waitThen_frame (s := inTransfer s .hs3 fr c t a) ha false
    (fun s' => sensorTo (.bitHi 0) { s' with sensor.frame := Vector.replicate 5 0, sensor.bitcnt := 0 })

/-- The first `k` bytes of the frame, all but the checksum. -/
theorem runSensor_bytes_frame {k : Nat} (hk : k ≤ 4) (x : Nat) :
    ∃ t' a' c' fr', runSensor (x + 24 * k) (inTransfer s (.bitHi 0) fr c t a) =
        runSensor x (inTransfer s (.bitHi ⟨8 * k, by omega⟩) fr' c' t' a') ∧
      ∀ j (h : j < k), fr'[j] = f[j] := by
  induction k generalizing x with
  | zero => exact ⟨t, a, c, fr, rfl, fun j hj => absurd hj (Nat.not_lt_zero j)⟩
  | succ k ih =>
    obtain ⟨t1, a1, c1, fr1, e1, hfr⟩ := ih (by omega) (x + 24)
    obtain ⟨t2, a2, e2⟩ := runSensor_byte_frame ha fr1 c1 t1 a1 ⟨k, by omega⟩ x
    refine ⟨t2, a2, 8 * k + 8, fr1.set k f[k], ?_, fun j hj => ?_⟩
    · rw [show x + 24 * (k + 1) = x + 24 + 24 * k by omega, e1, e2, afterBit_byte s (n := k) (by omega)]
      rfl
    · rw [Vector.getElem_set]
      split
      next h => simp only [h]
      next h => exact hfr j (by omega)

/-- The 120 micro-steps of the 40 bits end at `CHECK` with the frame that was answered (R62, R139). -/
theorem runSensor_frame (x : Nat) :
    ∃ t' a', runSensor (x + 120) (inTransfer s (.bitHi 0) fr c t a) = runSensor x (atCheck s f t' a') := by
  obtain ⟨t1, a1, c1, fr1, e1, hfr⟩ := runSensor_bytes_frame ha fr c t a (k := 4) (Nat.le_refl 4) (x + 24)
  obtain ⟨t2, a2, e2⟩ := runSensor_byte_frame ha fr1 c1 t1 a1 4 x
  have hall : fr1.set 4 f[4] = f := by
    refine Vector.ext fun j hj => ?_
    rw [Vector.getElem_set]
    split
    next h => simp only [h]
    next h => exact hfr j (by omega)
  refine ⟨t2, a2, ?_⟩
  rw [show x + 120 = x + 24 + 24 * 4 by omega, e1]
  refine e2.trans (congrArg (runSensor x) ?_)
  rw [← afterBit_last]
  exact congrArg (fun g => afterBit 39 (inTransfer s (.bitLo 39) g 40 t2 a2)) hall

end Frame

/-- `s` with the lock taken by a read of the sensor, as the critical section begins (R130, R132 to R134). -/
def inRead (s : State) : State :=
  { s with ctl.lock := .held .sensor, ctl.mask := true, pins.sdata := .input }

/-- The five micro-steps of READ_SENSOR before its first bit (R131, R139). -/
theorem runSensor_handshake_frame {s : State} {f : Vector Byte 5} (ha : sensorAnswer s = .frame f) (x : Nat) :
    ∃ t a, runSensor (x + 5) (startSensor s) =
      runSensor x (inTransfer (inRead s) (.bitHi 0) (Vector.replicate 5 0) 0 t a) := by
  obtain ⟨t0, a0, e0⟩ : ∃ t a, sensorTick none (sensorTick none (startSensor s)) =
      inTransfer (inRead s) .hs1 s.sensor.frame s.sensor.bitcnt t a := ⟨_, _, rfl⟩
  obtain ⟨t1, a1, e1⟩ := sensorTick_hs1_frame (s := inRead s) ha s.sensor.frame s.sensor.bitcnt t0 a0
  obtain ⟨t2, a2, e2⟩ := sensorTick_hs2_frame (s := inRead s) ha s.sensor.frame s.sensor.bitcnt t1 a1
  obtain ⟨t3, a3, e3⟩ := sensorTick_hs3_frame (s := inRead s) ha s.sensor.frame s.sensor.bitcnt t2 a2
  refine ⟨t3, a3, ?_⟩
  rw [runSensor_succ (by simp [startSensor]), runSensor_succ (by simp [sensorTick, startSensor]), e0,
    runSensor_succ (by simp [inTransfer]), e1, runSensor_succ (by simp [inTransfer]), e2,
    runSensor_succ (by simp [inTransfer]), e3]

/-! ### READ_SENSOR answered with a frame, and the checksum (O22) -/

/-- READ_SENSOR answered with a frame comes to `CHECK` with that frame, and ends by its checksum (R62, R130, R141). -/
theorem exec_readSensor_frame {s : State} {f : Vector Byte 5} (hc : s.ctl.ctx = .task) (hl : s.ctl.lock = .free)
    (hs : s.sensor.seq = .idle) (ha : sensorAnswer s = .frame f) :
    ∃ t a, exec .readSensor s = .next
      (if checksumGood f then finishSensor (atCheck (inRead s) f t a)
        else raiseSensor .checksumMismatch 0 (atCheck (inRead s) f t a)) := by
  obtain ⟨t1, a1, e1⟩ := runSensor_handshake_frame ha 121
  obtain ⟨t2, a2, e2⟩ := runSensor_frame (s := inRead s) ha (Vector.replicate 5 0) 0 t1 a1 1
  have hready : sensorReady s = true := by simp [sensorReady, hl, hs]
  have hexec : exec .readSensor s = .next (runSensor (121 + 5) (startSensor s)) := by
    rw [exec, execReadSensor, busStep_task hc, if_pos hready]
    rfl
  refine ⟨t2, a2, hexec.trans (congrArg _ ?_)⟩
  rw [e1, e2, runSensor_succ (by simp [atCheck, inTransfer])]
  rfl

/-- RAISING AN ERROR of READ_SENSOR, as one write of the state (R130, R142, R296). -/
theorem raiseSensor_eq (e : ErrCode) (k : Nat) (s : State) :
    raiseSensor e k s =
      { s with
        sensor :=
          { s.sensor with
            seq := .idle
            valid := false
            temperature := Config.freeByte s.aux.freeCtr
            humidity := Config.freeByte (s.aux.freeCtr + 1)
            serr := e
            serrStep := k }
        ctl.mask := false
        ctl.lock := if s.ctl.lock = .held .sensor then .free else s.ctl.lock
        pins.sdata := .input
        env.sensorIn := s.env.sensorIn.tail
        aux.freeCtr := s.aux.freeCtr + 2 } := by
  rw [raiseSensor, sensorExit_eq]
  rfl

/-- The good end of READ_SENSOR, as one write of the state (R130, R142, R296). -/
theorem finishSensor_eq (s : State) :
    finishSensor s =
      { s with
        sensor :=
          { s.sensor with
            seq := .idle
            valid := true
            temperature := s.sensor.frame[2]
            humidity := s.sensor.frame[0]
            serr := .ok
            serrStep := 0 }
        ctl.mask := false
        ctl.lock := if s.ctl.lock = .held .sensor then .free else s.ctl.lock
        pins.sdata := .input
        env.sensorIn := s.env.sensorIn.tail } := by
  rw [finishSensor, sensorExit_eq]

/-- The checksum as an equation of numbers (R93). -/
theorem checksumGood_iff (f : Vector Byte 5) :
    checksumGood f = true ↔ (f[0].toNat + f[1].toNat + f[2].toNat + f[3].toNat) % 256 = f[4].toNat := by
  rw [checksumGood, checksumOf, decide_eq_true_iff, ← BitVec.toNat_inj, BitVec.toNat_ofNat,
    Nat.mod_mod_of_dvd _ (by decide), eq_comm]

/-- The checksum notices any change of one byte (R146). -/
theorem checksumGood_set {f : Vector Byte 5} {n : Fin 5} {b : Byte} (hf : checksumGood f = true) (hb : b ≠ f[n.val]) :
    checksumGood (f.set n.val b) = false := by
  obtain ⟨n, hn⟩ := n
  have hne : b.toNat ≠ f[n].toNat := fun h => hb (BitVec.eq_of_toNat_eq h)
  have hlt := b.isLt
  have hltn := f[n].isLt
  have hset (j : Nat) (hj : j < 5) : (f.set n b)[j].toNat = if n = j then b.toNat else f[j].toNat := by
    rw [Vector.getElem_set, apply_ite BitVec.toNat]
  rw [Bool.eq_false_iff, Ne, checksumGood_iff, hset 0, hset 1, hset 2, hset 3, hset 4]
  rw [checksumGood_iff] at hf
  obtain rfl | rfl | rfl | rfl | rfl : n = 0 ∨ n = 1 ∨ n = 2 ∨ n = 3 ∨ n = 4 := by omega
  all_goals
    simp only [Nat.reduceEqDiff, reduceIte]
    omega

/-- The checksum does not notice a unit moved from one byte to another (R146). -/
theorem checksumGood_moveUnit {f : Vector Byte 5} (hf : checksumGood f = true) :
    checksumGood ((f.set 0 (f[0] + 1)).set 2 (f[2] - 1)) = true := by
  rw [checksumGood_iff] at hf ⊢
  have h0 := f[0].isLt
  have h2 := f[2].isLt
  simp [BitVec.toNat_sub, BitVec.toNat_add]
  omega

/-- Settles O22: the sum differs by less than 256, so that CHECK fails on the changed frame. -/
theorem oneCorruptByteBreaksChecksum : Obligations.OneCorruptByteBreaksChecksum := by
  refine ⟨fun f n b hf hb => ?_, fun f => checksumGood_moveUnit⟩
  have hbad := checksumGood_set hf hb
  refine ⟨hbad, fun s hc hl hs ha => ?_⟩
  obtain ⟨t, a, e⟩ := exec_readSensor_frame hc hl hs ha
  rw [hbad, if_neg Bool.false_ne_true, raiseSensor_eq] at e
  exact ⟨_, e, rfl, rfl⟩

/-! ### The codes of the frame bytes (O25) -/

/-- A frame-byte code is a step of the bus operation that receives the byte (R91). -/
theorem exec_sframeRow (n : Fin 5) (b : Byte) (s : State) : exec (sframeRow n b) s = busStep (frameByte n b) s := by
  match n with
  | 0 | 1 | 2 | 3 | 4 => rfl

/-- `s` with other answers of the sensor to come (R62). -/
def withAnswers (answers : List SensorAnswer) (s : State) : State := { s with env.sensorIn := answers }

/-- No bit's end reads the answers to come (R131). -/
theorem afterBit_withAnswers (i : Fin 40) (answers : List SensorAnswer) (s : State) :
    afterBit i (withAnswers answers s) = withAnswers answers (afterBit i s) := by
  unfold afterBit
  split <;> rfl

/-- Where its first bit is due, the byte arrives as that of a frame answered (R62, R91, R92). -/
theorem frameByte_due {s : State} {n : Fin 5} (b : Byte) (hs : s.sensor.seq = .bitHi ⟨8 * n.val, by omega⟩) :
    ∃ t a, frameByte n b s =
      withAnswers s.env.sensorIn (afterBit ⟨8 * n.val + 7, by omega⟩
        (inTransfer s (.bitLo ⟨8 * n.val + 7, by omega⟩) (s.sensor.frame.set n.val b) (8 * n.val + 8) t a)) := by
  let u := withAnswers [.frame ((Vector.replicate 5 0).set n.val b)] s
  have hrun : frameByte n b s = withAnswers s.env.sensorIn (runSensor (0 + 24) u) := by
    simp only [frameByte, hs, if_true]
    rfl
  obtain ⟨t, a, e⟩ := runSensor_byte_frame (s := u) rfl u.sensor.frame u.sensor.bitcnt u.time u.aux n 0
  refine ⟨t, a, ?_⟩
  rw [hrun, eq_inTransfer (s := u) hs, e, Vector.getElem_set_self, runSensor, ← afterBit_withAnswers,
    ← afterBit_withAnswers]
  rfl

/-- Settles O25: the byte is received, and `afterBit` follows its last bit. -/
theorem frameBytesFillFrame : Obligations.FrameBytesFillFrame := by
  intro s n b h hc hs
  obtain ⟨t, a, e⟩ := frameByte_due b hs
  rw [exec_sframeRow, busStep_task hc, e]
  refine ⟨_, rfl, ?_⟩
  obtain ⟨n, hn⟩ := n
  by_cases h4 : n = 4
  · subst h4
    exact ⟨rfl, rfl, rfl, rfl, rfl⟩
  · rw [afterBit_byte s (n := n) (by omega)]
    simp [inTransfer, withAnswers, h4, show 8 * n + 8 < 40 by omega]

/-! ### The result codes of a sensor read (O26) -/

/-- The loop of WAIT_LEVEL finds nothing if no poll has the level (R140). -/
theorem pollUntil_none {level : Nat → Bool} {v : Bool} {poll fuel now : Nat}
    (h : ∀ n, n ≤ fuel → level (now + n * poll) ≠ v) : pollUntil level v poll fuel now = none := by
  have hnow : level now ≠ v := by simpa using h 0 (Nat.zero_le fuel)
  induction fuel generalizing now with
  | zero => rw [pollUntil, if_neg hnow]
  | succ fuel ih =>
    rw [pollUntil, if_neg hnow]
    have hnext : ∀ n, n ≤ fuel → level (now + poll + n * poll) ≠ v := fun n hn => by
      have := h (n + 1) (by omega)
      rwa [Nat.succ_mul, Nat.add_comm (n * poll), ← Nat.add_assoc] at this
    exact ih hnext (by simpa using hnext 0 (Nat.zero_le fuel))

/-- At a wait position the sequencer's micro-step is the wait for its level (R139). -/
theorem sensorTick_wait {s : State} {v : Bool} (h : wantedLevel s.sensor.seq = some v) (want : Option Nat) :
    ∃ onward, sensorTick want s = waitThen v onward s := by
  unfold sensorTick
  cases hs : s.sensor.seq <;> rw [hs] at h <;> cases h <;> exact ⟨_, rfl⟩

/-- A wait that exceeds its budget ends READ_SENSOR with Timeout and the step's number (R140, R292). -/
theorem sensorTick_timesOut {s : State} {v : Bool} {k : Nat} (hv : wantedLevel s.sensor.seq = some v)
    (hk : waitStep s.sensor.seq = some k) (hw : (waitOutcome v s).1 = false) (want : Option Nat) :
    sensorTick want s = raiseSensor .timeout k (recordEvent (.sensorTimeout k) (waitLevel v s)) := by
  obtain ⟨onward, e⟩ := sensorTick_wait hv want
  obtain ⟨h, _⟩ | ⟨_, h⟩ := waitThen_cases v onward s
  · exact absurd (hw.symm.trans h) Bool.false_ne_true
  · rw [e, h, hk, Option.getD_some]

/-- The two causes of a timeout: it is the outcome answered, or no poll of the waveform has the level (R62, R140). -/
theorem waitOutcome_timesOut {s : State} {v : Bool} {k : Nat} (hk : waitStep s.sensor.seq = some k)
    (h : sensorAnswer s = .timeoutAt k ∨
      ∃ w, sensorAnswer s = .wave w ∧ ∀ n, n ≤ s.cfg.waitMaxIter →
        sdataLevel s.pins.sdata w (s.aux.sClock + n * s.cfg.tPoll - s.aux.sHs1) ≠ v) :
    (waitOutcome v s).1 = false := by
  obtain h | ⟨w, h, hpoll⟩ := h
  · simp only [waitOutcome, h, hk, if_true]
  · have hnone := pollUntil_none (level := fun t => sdataLevel s.pins.sdata w (t - s.aux.sHs1)) hpoll
    simp only [waitOutcome, h, hnone]

theorem sensorTick_check {s : State} (h : s.sensor.seq = .check) (want : Option Nat) :
    sensorTick want s =
      if checksumGood s.sensor.frame then finishSensor s else raiseSensor .checksumMismatch 0 s := by
  simp only [sensorTick, h]

/-- Settles O26: each code takes the micro-step of its place, which ends the read. -/
theorem sensorResultCodesEndTheRead : Obligations.SensorResultCodesEndTheRead := by
  intro s hc hl
  refine ⟨fun v k hv hk hcause => ?timeout, fun hs => ?check⟩
  case timeout =>
    have hw := waitOutcome_timesOut hk hcause
    have hout : timesOut s = true := by simp [timesOut, hv, hw]
    refine ⟨sensorTick none s, ?_, ?_⟩
    · rw [exec, execErrTimeout, busStep_task hc, inPlace, if_pos hout]
    · rw [sensorTick_timesOut hv hk hw, raiseSensor_eq]
      simp [waitLevel, hl, ErrCode.code]
  case check =>
    split
    next hg =>
      rw [← checksumGood_iff] at hg
      rw [exec, execErrOK, busStep_task hc, if_pos ⟨hs, hg⟩, sensorTick_check hs, if_pos hg, finishSensor_eq, if_pos hl]
    next hg =>
      rw [← checksumGood_iff] at hg
      refine ⟨sensorTick none s, ?_, ?_⟩
      · rw [exec, execErrChecksumMismatch, busStep_task hc, inPlace, if_pos (by simp [hs, hg])]
      · rw [sensorTick_check hs, if_neg hg, raiseSensor_eq, if_pos hl]
        exact ⟨rfl, rfl, rfl, rfl, rfl, rfl, rfl, rfl⟩

end Sys2Proof.Machine

/-! ## The codes of the bytes on the RTC bus (O36, O37, O38) -/

namespace Sys2Proof.Machine

/-! ### The micro-steps around a byte, up to the next byte or out of the window -/

theorem untilByte_stop {s : State} (h : betweenBytes (rtcTick s) = true) (n : Nat) :
    untilByte (n + 1) s = rtcTick s := by
  rw [untilByte, if_pos h]

theorem untilByte_go {s : State} (h : betweenBytes (rtcTick s) = false) (n : Nat) :
    untilByte (n + 1) s = untilByte n (rtcTick s) := by
  rw [untilByte, if_neg (by simp [h])]

/-- Before a command byte its window opens (R161, R165, R166). -/
theorem rtcByte_rest {s : State} (hh : rtcHolds s.rtc.seq = true) (hp : s.rtc.phase = .rest) :
    rtcByte s = untilByte 46 (phaseTo (.command .load) (openWindow s)) := by
  have e1 := rtcTick_rest hh hp
  have e2 : rtcTick (phaseTo .lead (setRce true s)) = phaseTo (.command .load) (openWindow s) := rtcTick_lead hh rfl
  rw [rtcByte, untilByte_go (by rw [e1]; rfl), e1, untilByte_go (by rw [e2]; rfl), e2]

/-- After a last data byte its window closes (R161, R165, R166). -/
theorem untilByte_trail {s : State} (hh : rtcHolds s.rtc.seq = true) (n : Nat) :
    untilByte (n + 2) (phaseTo .trail s) = untilByte n (closeTick (phaseTo .close (delay s.cfg.tHalfbit s))) := by
  have e1 : rtcTick (phaseTo .trail s) = phaseTo .close (delay s.cfg.tHalfbit s) := rtcTick_trail hh rfl
  have e2 : rtcTick (phaseTo .close (delay s.cfg.tHalfbit s)) = closeTick (phaseTo .close (delay s.cfg.tHalfbit s)) :=
    rtcTick_close hh rfl
  have hclose : betweenBytes (closeTick (phaseTo .close (delay s.cfg.tHalfbit s))) = false := by
    unfold closeTick
    split <;> rfl
  rw [untilByte_go (by rw [e1]; rfl), e1, untilByte_go (by rw [e2]; exact hclose), e2]

/-! ### The command bytes (O36) -/

/-- Pairs 0 and 8 have the same command, the control one (R101, R180). -/
theorem commandRow_eq_control {q : Fin 9} (h : commandRow q = .cmdWrControl) : q = 0 ∨ q = 8 := by
  revert q
  decide

/-- Every other pair has a command of its own (R101, R180). -/
theorem commandRow_injective {q p : Fin 9} (h0 : p ≠ 0) (h8 : p ≠ 8) (h : commandRow q = commandRow p) : q = p := by
  revert q p
  decide

theorem atCommand_iff (p : Fin 9) (s : State) : atCommand p s = true ↔ s.rtc.seq = .wPair p ∧ s.rtc.phase = .rest := by
  simp only [atCommand, Bool.and_eq_true, decide_eq_true_eq]

theorem atCommand_iff_row {p : Fin 9} (h0 : p ≠ 0) (h8 : p ≠ 8) (s : State) :
    atCommand p s = true ↔ ∃ q, s.rtc.seq = .wPair q ∧ commandRow q = commandRow p ∧ s.rtc.phase = .rest := by
  rw [atCommand_iff]
  constructor
  · rintro ⟨hs, hp⟩
    exact ⟨p, hs, rfl, hp⟩
  · rintro ⟨q, hs, hq, hp⟩
    exact ⟨commandRow_injective h0 h8 hq ▸ hs, hp⟩

theorem atControl_iff_row (s : State) :
    (atCommand 0 s || atCommand 8 s) = true ↔
      ∃ q, s.rtc.seq = .wPair q ∧ commandRow q = .cmdWrControl ∧ s.rtc.phase = .rest := by
  rw [Bool.or_eq_true, atCommand_iff, atCommand_iff]
  constructor
  · rintro (⟨hs, hp⟩ | ⟨hs, hp⟩)
    · exact ⟨0, hs, rfl, hp⟩
    · exact ⟨8, hs, rfl, hp⟩
  · rintro ⟨q, hs, hq, hp⟩
    obtain rfl | rfl := commandRow_eq_control hq
    · exact .inl ⟨hs, hp⟩
    · exact .inr ⟨hs, hp⟩

/-- A command code of a write is a step of the bus operation, in place at a pair of that command before its window opens
(R101, R180, log 19). -/
theorem exec_commandRow (p : Fin 9) (s : State) :
    ∃ here, exec (commandRow p) s = busStep (inPlace here rtcByte) s ∧
      (here = true ↔ ∃ q, s.rtc.seq = .wPair q ∧ commandRow q = commandRow p ∧ s.rtc.phase = .rest) := by
  match p with
  | 0 | 8 => exact ⟨_, rfl, atControl_iff_row s⟩
  | 1 | 2 | 3 | 4 | 5 | 6 | 7 => exact ⟨_, rfl, atCommand_iff_row (by decide) (by decide) s⟩

theorem pairCommand_eq_getD (c : Params) (p : Fin 9) :
    pairCommand c p = [c.cmdWrControl, c.cmdWrSeconds, c.cmdWrMinutes, c.cmdWrHours, c.cmdWrDay, c.cmdWrMonth,
      c.cmdWrWeekday, c.cmdWrYear, c.cmdWrControl].getD p.val 0 := by
  match p with
  | 0 | 1 | 2 | 3 | 4 | 5 | 6 | 7 | 8 => rfl

/-- A byte sent in a window that has just opened, as one write of the state (R161, R163, R167). -/
theorem writeByte_openWindow (turn : Bool) (b : Byte) (ph : CPhase) (s : State) :
    writeByte turn b (phaseTo ph (openWindow s)) =
      { s with
        rtc.shift := b
        rtc.bitcnt := 8
        rtc.phase := ph
        pins.rce := true
        pins.rclk := false
        pins.rio := if turn then .input else driveOf (b.getLsbD 7)
        time := s.time + 17 * s.cfg.tHalfbit
        trace.rioLog := s.trace.rioLog ++ lsbBits b } := by
  have ht : s.time + s.cfg.tHalfbit + 16 * s.cfg.tHalfbit = s.time + 17 * s.cfg.tHalfbit := by omega
  rw [writeByte_eq, ← ht]
  rfl

/-- Settles O36: the window opens, the byte goes out, and what follows is the data byte. -/
theorem commandBytesGoOut : Obligations.CommandBytesGoOut := by
  refine ⟨?_, fun s hc hs hp => ?_⟩
  · intro s p hc hs hp cmd
    obtain ⟨here, e, hhere⟩ := exec_commandRow p s
    rw [e, busStep_task hc, inPlace, if_pos (hhere.mpr ⟨p, hs, rfl, hp⟩), rtcByte_rest (rtcHolds_pair hs) hp,
      (rtc_pairCommand (s := phaseTo (.command .load) (openWindow s)) hs rfl 5).2, writeByte_openWindow,
      pairCommand_eq_getD]
    rfl
  · have hhere : (decide (s.rtc.seq = .rCmd) && decide (s.rtc.phase = .rest)) = true := by simp [hs, hp]
    rw [exec, execCmdBurstRead, busStep_task hc, inPlace, if_pos hhere, rtcByte_rest (rtcHolds_readCommand hs) hp,
      (rtc_burstCommand (s := phaseTo (.command .load) (openWindow s)) hs rfl 4).2, writeByte_openWindow]
    rfl

/-! ### The data codes (O37, O38) -/

/-- A data code is a step of the bus operation that sends or receives its byte (R99). -/
theorem exec_rdataRow (j : Fin 8) (b : Byte) (s : State) : exec (rdataRow j b) s = busStep (dataByte j b) s := by
  match j with
  | 0 | 1 | 2 | 3 | 4 | 5 | 6 | 7 => exact congrArg (fun c => busStep (dataByte _ c) s) (Codes.byteOf_nibbles b)

theorem writeByte_cfg (turn : Bool) (b : Byte) (s : State) : (writeByte turn b s).cfg = s.cfg := by rw [writeByte_eq]

theorem writeByte_wbuf (turn : Bool) (b : Byte) (s : State) : (writeByte turn b s).rtc.wbuf = s.rtc.wbuf := by
  rw [writeByte_eq]

/-- The second half of a pair, as one write of the state (R163, R165). -/
theorem pairClose_eq (cmd v : Byte) (s : State) :
    pairClose cmd v s =
      { s with
        rtc.shift := v
        rtc.bitcnt := 8
        pins := { s.pins with rce := false, rclk := false, rio := .input }
        time := s.time + 16 * s.cfg.tHalfbit + s.cfg.tHalfbit
        trace.history := s.trace.history ++ [.memWrite cmd v]
        trace.rioLog := s.trace.rioLog ++ lsbBits v } := by
  rw [pairClose, writeByte_eq]
  rfl

/-- The end of a pair's window, and what follows: the next pair, or the end of WRITE_CLOCK (R165, R180). -/
theorem untilByte_trail_pair {s : State} {p : Fin 9} (hs : s.rtc.seq = .wPair p) (n : Nat) :
    let t := recordEvent (.memWrite (pairCommand s.cfg p) (pairData s.cfg s.rtc.wbuf p))
      (driveRio .input (closeWindow s))
    (∀ h : p.val + 1 < 9, untilByte (n + 4) (phaseTo .trail s) = rtcTo (.wPair ⟨p.val + 1, h⟩) .rest t) ∧
    (p.val = 8 → untilByte (n + 4) (phaseTo .trail s) = finishWrite t) := by
  intro t
  let u := phaseTo .settle
    (recordEvent (.memWrite (pairCommand s.cfg p) (pairData s.cfg s.rtc.wbuf p)) (closeWindow s))
  have hclose : closeTick (phaseTo .close (delay s.cfg.tHalfbit s)) = u := closeTick_pair hs
  have hu : u.rtc.seq = .wPair p := hs
  have hsettle : rtcTick u = settleTick u := rtcTick_settle (rtcHolds_pair hu) rfl
  rw [untilByte_trail (rtcHolds_pair hs), hclose]
  constructor
  · intro h
    have e : rtcTick u = rtcTo (.wPair ⟨p.val + 1, h⟩) .rest t := hsettle.trans (settleTick_next hu h)
    rw [untilByte_stop (by rw [e]; rfl), e]
  · intro h
    have e : rtcTick u = phaseTo .finish t := hsettle.trans (settleTick_last hu h)
    have hf : (phaseTo .finish t).rtc.seq = .wPair p := hs
    have e' : rtcTick (phaseTo .finish t) = finishWrite t :=
      (rtcTick_finish (rtcHolds_pair hf) rfl).trans (finishTick_pair hf)
    have hrest : betweenBytes (finishWrite t) = true := by rw [finishWrite, releaseLock_eq]; rfl
    rw [untilByte_go (by rw [e]; rfl), e, untilByte_stop (by rw [e']; exact hrest), e']

/-- Where the data byte of a pair is due: the byte, the end of its window, and the next pair or the end of WRITE_CLOCK
(R165, R180). -/
theorem rtcByte_pairData {s : State} {p : Fin 9} (hs : s.rtc.seq = .wPair p) (hp : s.rtc.phase = .data .load) :
    let t := pairClose (pairCommand s.cfg p) (pairData s.cfg s.rtc.wbuf p) s
    (∀ h : p.val + 1 < 9, rtcByte s = rtcTo (.wPair ⟨p.val + 1, h⟩) .rest t) ∧
    (p.val = 8 → rtcByte s = finishWrite t) := by
  have hw : (writeByte false (pairData s.cfg s.rtc.wbuf p) s).rtc.seq = .wPair p := by rw [writeByte_eq]; exact hs
  have h := untilByte_trail_pair hw 3
  simp only [writeByte_cfg, writeByte_wbuf] at h
  rw [rtcByte, (rtc_pairData hs hp 7).2]
  exact h

/-- The pair of a field of the operand: its command and its byte in BCD (R101, R107, R180). -/
theorem pair_of_field (c : Params) (w : ClockValue) (j : Fin 7) :
    pairCommand c ⟨j.val + 1, by omega⟩ = [c.cmdWrSeconds, c.cmdWrMinutes, c.cmdWrHours, c.cmdWrDay, c.cmdWrMonth,
        c.cmdWrWeekday, c.cmdWrYear].getD j.val 0 ∧
      pairData c w ⟨j.val + 1, by omega⟩ =
        bcdEnc ([w.second, w.minute, w.hour, w.day, w.month, w.weekday, w.year].getD j.val 0) := by
  match j with
  | 0 | 1 | 2 | 3 | 4 | 5 | 6 => exact ⟨rfl, rfl⟩

/-- Settles O37: the byte of the pair at hand goes out and its pair ends. -/
theorem dataBytesOfAWrite : Obligations.DataBytesOfAWrite := by
  intro s hc hp
  refine ⟨fun j b hs hb => ?field, fun hs => ?off, fun hs hl => ?on⟩
  case field =>
    obtain ⟨hcmd, hdata⟩ := pair_of_field s.cfg s.rtc.wbuf j
    have hbyte := (rtcByte_pairData hs hp).1 (by simp only; omega)
    rw [hcmd, hdata, ← hb, pairClose_eq] at hbyte
    refine ⟨rtcByte s, ?_, ?_⟩
    · rw [exec_rdataRow, busStep_task hc, dataByte, if_pos hp, hs]
      simp [inPlace, hdata, hb]
    · rw [hbyte]
      exact ⟨rfl, rfl, rfl, rfl, rfl, rfl⟩
  case off =>
    have hbyte := (rtcByte_pairData hs hp).1 (by decide)
    rw [pairClose_eq] at hbyte
    refine ⟨rtcByte s, ?_, ?_⟩
    · rw [exec, execWpOff, busStep_task hc, inPlace, if_pos (by simp [atData, hs, hp])]
    · rw [hbyte]
      exact ⟨rfl, rfl, rfl, rfl, rfl, rfl⟩
  case on =>
    have hbyte := (rtcByte_pairData hs hp).2 rfl
    rw [pairClose_eq, finishWrite, releaseLock_eq] at hbyte
    refine ⟨rtcByte s, ?_, ?_⟩
    · rw [exec, execWpOn, busStep_task hc, inPlace, if_pos (by simp [atData, hs, hp])]
    · rw [hbyte]
      exact ⟨rfl, rfl, rfl, rfl, congrArg (fun l => { s.ctl with lock := l }) (if_pos hl), rfl, rfl⟩

/-- A byte in, where the device presents one (R66, R68, R164). -/
theorem readByte_presented {s : State} {b : Byte} {rest : List Bool} (hr : s.pins.rio = .input)
    (he : s.env.rioIn = lsbBits b ++ rest) :
    readByte s =
      { s with
        rtc.shift := b
        rtc.bitcnt := 8
        pins.rclk := false
        time := s.time + 16 * s.cfg.tHalfbit
        env.rioIn := rest
        aux.freeCtr := s.aux.freeCtr + 8
        trace.rioLog := s.trace.rioLog ++ lsbBits b } := by
  obtain ⟨v, e, hv⟩ := readByte_eq s
  have hbits : v = b := by
    refine BitVec.eq_of_getLsbD_eq fun i hi => ?_
    rw [hv i hi, rioAhead, hr, he]
    match i, hi with
    | 0, _ | 1, _ | 2, _ | 3, _ | 4, _ | 5, _ | 6, _ | 7, _ => rfl
  rw [e, he, hbits]
  rfl

/-- Where a byte of a burst read is due: the byte goes to its place, and the next byte follows, or the end of the window
and the decode (R166, R170, R174). -/
theorem rtcByte_readData {s : State} {j : Fin 8} (hs : s.rtc.seq = .rData j) (hp : s.rtc.phase = .data .load) :
    let t := storeByte j (readByte s)
    (∀ h : j.val + 1 < 8, rtcByte s = rtcTo (.rData ⟨j.val + 1, h⟩) (.data .load) t) ∧
    (¬ j.val + 1 < 8 →
      rtcByte s = rtcTo .rDecode .rest
        (releaseLock .rtc (recordEvent (.memRead t.cfg.cmdBurstRead t.rtc.cbuf) (closeWindow t)))) := by
  intro t
  obtain ⟨hnext, hlast⟩ := rtc_burstByte hs hp 7
  refine ⟨fun h => (hnext h).2, fun h => ?_⟩
  have ht : t.rtc.seq = .rData j := by
    obtain ⟨v, e, _⟩ := readByte_eq s
    simp only [t, e]
    exact hs
  let u := phaseTo .finish (recordEvent (.memRead t.cfg.cmdBurstRead t.rtc.cbuf) (closeWindow t))
  have hclosed : rtcByte s = untilByte 5 u := by
    rw [rtcByte, (hlast h).2, untilByte_trail (rtcHolds_readData ht), closeTick_read (j := j) (by exact ht)]
    rfl
  have hu : u.rtc.seq = .rData j := ht
  have e : rtcTick u = rtcTo .rDecode .rest (releaseLock .rtc u) :=
    (rtcTick_finish (rtcHolds_readData hu) rfl).trans (finishTick_read hu)
  rw [hclosed, untilByte_stop (by rw [e]; rfl), e, releaseLock_eq, releaseLock_eq]
  rfl

/-- Settles O38: the byte presented is the byte received. -/
theorem dataBytesOfARead : Obligations.DataBytesOfARead := by
  intro s j b hc hs hp hr hl
  let u : State := { s with env.rioIn := lsbBits b ++ s.env.rioIn }
  have hexec : exec (rdataRow j b) s = .next (rtcByte u) := by
    rw [exec_rdataRow, busStep_task hc, dataByte, if_pos hp, hs]
    simp [u]
  obtain ⟨hnext, hlast⟩ := rtcByte_readData (s := u) hs hp
  rw [readByte_presented (s := u) hr rfl] at hnext hlast
  refine ⟨_, hexec, ?_⟩
  by_cases h : j.val + 1 < 8
  · rw [hnext h, if_neg (show ¬ j.val = 7 by omega)]
    simp only [if_pos h, dif_pos h]
    exact ⟨rfl, rfl, rfl, rfl, rfl, rfl⟩
  · rw [hlast h, if_pos (show j.val = 7 by omega), releaseLock_eq]
    simp only [if_neg h, dif_neg h]
    exact ⟨rfl, rfl, rfl, rfl, congrArg (fun l => { s.ctl with lock := l }) (if_pos hl), rfl⟩

end Sys2Proof.Machine

/-! ## The table codes (O46) -/

namespace Sys2Proof.Machine

/-! ### The entry a table code selects (O46) -/

/-- A table code answers the edge event of its entry (R109, R110). -/
theorem exec_transitionRow (prev new : RawState) (s : State) :
    exec (transitionRow prev new) s = .next (tableEntry prev new s) := by
  have four : ∀ q : RawState, q = 0 ∨ q = 1 ∨ q = 2 ∨ q = 3 := by decide
  rcases four prev with rfl | rfl | rfl | rfl <;> rcases four new with rfl | rfl | rfl | rfl <;> rfl

/-- A raw state is its two levels (R108). -/
theorem rawState_levels (q : RawState) : rawState (q.getLsbD 1) (q.getLsbD 0) = q := by
  revert q
  decide

/-- The entry by its number in the listing (R109, R110). -/
theorem transitionStep_eq (dirSwap : Bool) (prev new : RawState) :
    transitionStep dirSwap prev new =
      if dirSwap then -(qtable.getD (4 * prev.toNat + new.toNat) 0)
      else qtable.getD (4 * prev.toNat + new.toNat) 0 := by
  have hidx : (transitionIndex prev new).toNat = 4 * prev.toNat + new.toNat := by
    revert prev new
    decide
  rw [transitionStep, hidx]

/-- The time window as the spec says it (R203, R233). -/
theorem within_eq_false {window t : Nat} {last : Option Nat} :
    within window last t = false ↔ ∀ t0, last = some t0 → window ≤ t - t0 := by
  cases last <;> simp [within]

/-- An edge that is accepted is decoded (R201, R203). -/
theorem encoderEdge_accepted {s : State} (h : Accepts s) (a b : Bool) :
    encoderEdge a b s = encoderPins a b (acceptEdge (rawState a b) s) := by
  obtain ⟨hen, hmask, htime⟩ := h
  have hw := within_eq_false.mpr htime
  obtain ⟨h, _⟩ | ⟨_, h, _⟩ | ⟨_, _, h, _⟩ | ⟨_, _, _, h⟩ := encoderEdge_cases a b s
  · simp [hen] at h
  · simp [hmask] at h
  · simp [hw] at h
  · exact h

/-- The table code with the present raw state as the previous one, where edges are accepted. -/
theorem exec_transitionRow_accepted {s : State} (h : Accepts s) (new : RawState) :
    exec (transitionRow s.quad.prev new) s =
      .next (encoderPins (new.getLsbD 1) (new.getLsbD 0) (acceptEdge new s)) := by
  rw [exec_transitionRow, tableEntry, inPlace, if_pos (by simp [h.enabled]), encoderEdge_accepted h, rawState_levels]

/-- A rotation in either direction makes a record (R112, R113, R253). -/
theorem push_rotate (s : State) :
    push .rotateCW s =
      { s with
        chan := { slot := .rotateCW, record := ⟨.rot, false⟩, avail := true }
        trace.history := s.trace.history ++ [.push .rotateCW] } ∧
    push .rotateCCW s =
      { s with
        chan := { slot := .rotateCCW, record := ⟨.rot, true⟩, avail := true }
        trace.history := s.trace.history ++ [.push .rotateCCW] } :=
  ⟨rfl, rfl⟩

section Count

variable {s : State} {d : Int}

/-- A count that stays strictly inside the thresholds (R206). -/
theorem accumulate_inside (hlo : -(s.cfg.nDetent : Int) < s.quad.acc + d) (hhi : s.quad.acc + d < s.cfg.nDetent) :
    accumulate d s = setAcc (s.quad.acc + d) s := by
  obtain ⟨h, _⟩ | ⟨_, h, _⟩ | ⟨_, _, e⟩ := accumulate_cases d s
  · omega
  · omega
  · exact e

/-- A count that reaches the upper threshold (R207). -/
theorem accumulate_clockwise (hhi : s.cfg.nDetent ≤ s.quad.acc + d) :
    accumulate d s = setAcc 0 (push .rotateCW s) := by
  obtain ⟨_, e⟩ | ⟨h, _⟩ | ⟨_, h, _⟩ := accumulate_cases d s
  · exact e
  · omega
  · omega

/-- A count that reaches the lower threshold, which is below the upper one (R207). -/
theorem accumulate_counterclockwise (hdet : 1 ≤ s.cfg.nDetent) (hlo : s.quad.acc + d ≤ -(s.cfg.nDetent : Int)) :
    accumulate d s = setAcc 0 (push .rotateCCW s) := by
  obtain ⟨h, _⟩ | ⟨_, _, e⟩ | ⟨h, _⟩ := accumulate_cases d s
  · omega
  · exact e
  · omega

end Count

/-- Settles O46: the edge is accepted and its entry counted. -/
theorem tableCodesCountTheirEntry : Obligations.TableCodesCountTheirEntry := by
  intro s prev new hacc hdet hprev e d moved
  subst hprev
  have hd : transitionStep s.cfg.dirSwap s.quad.prev new = d := transitionStep_eq _ _ _
  let u : State := { s with quad.last := some s.time, quad.prev := new }
  have hedge : acceptEdge new s = if d = 0 then u else accumulate d u := by rw [acceptEdge, hd]
  rw [exec_transitionRow_accepted hacc, hedge]
  refine ⟨fun h0 => ?_, fun h0 hlo hhi => ?_, fun h0 hhi => ?_, fun h0 hlo => ?_⟩
  · rw [if_pos h0]
    rfl
  · rw [if_neg h0, accumulate_inside (s := u) hlo hhi]
    rfl
  · rw [if_neg h0, accumulate_clockwise (s := u) hhi, (push_rotate u).1]
    rfl
  · rw [if_neg h0, accumulate_counterclockwise (s := u) hdet hlo, (push_rotate u).2]
    rfl

end Sys2Proof.Machine

/-! ## Words of the host operations, and lines that are refused (O3, O4, O5) -/

namespace Sys2Proof.Codes

open Sys2Proof.Machine

/-! ### Words of the host operations (O3, O4) -/

/-- A byte from its two half bytes as numbers (R115). -/
theorem ofNat_eq_byteOf (op arg : Fin 16) :
    BitVec.ofNat 8 (16 * op.val + arg.val) = byteOf (BitVec.ofNat 4 op.val) (BitVec.ofNat 4 arg.val) := by
  apply BitVec.eq_of_toNat_eq
  rw [toNat_eq_nibbles (byteOf _ _), highNibble_byteOf, lowNibble_byteOf]
  simp only [BitVec.toNat_ofNat]
  omega

/-- The half bytes R115 assigns to none of the nine operations. -/
theorem hostopAssigned_eq_false {op arg : Fin 16}
    (h : op.val = 0 ∨ 10 ≤ op.val ∨ ((1 ≤ op.val ∧ op.val ≤ 5 ∨ op.val = 7) ∧ arg.val ≠ 0) ∨
      ((op.val = 6 ∨ op.val = 8) ∧ 4 ≤ arg.val) ∨ (op.val = 9 ∧ 2 ≤ arg.val)) :
    hostopAssigned (BitVec.ofNat 4 op.val) (BitVec.ofNat 4 arg.val) = false := by
  revert op arg
  decide

/-- A code not assigned is read as reserved, with its half bytes (R115). -/
theorem decode_reserved (p : Params) {op arg : Nibble} (h : hostopAssigned op arg = false) (rest : List Byte) :
    decode p .hostop (byteOf op arg :: rest) = .ok (.hostopReserved op arg, rest) :=
  decode_encode_hostop p (i := .hostopReserved op arg) (by simp [wellFormed, h]) rfl rest

theorem encodeNumber_byte {b : Byte} (h : b ≠ 0xFF) : encodeNumber b.toNat = [b] := by
  have hlt : b.toNat < 255 := by
    have := b.isLt
    have : b.toNat ≠ 255 := fun h255 => h (eq_ofNat_of_toNat h255)
    omega
  rw [encodeNumber_of_lt hlt, ← eq_ofNat_of_toNat rfl]

/-- The operand of WRITE_CLOCK is seven bytes where no number of it is above 254 (log 12). -/
theorem clockOperandBytes_bytes {s m h d mo w y : Byte} (hb : 0xFF ∉ [s, m, h, d, mo, w, y]) :
    clockOperandBytes ⟨s.toNat, m.toNat, h.toNat, d.toNat, mo.toNat, w.toNat, y.toNat⟩ = [s, m, h, d, mo, w, y] := by
  simp only [List.mem_cons, List.not_mem_nil, or_false, not_or, ← ne_eq] at hb
  obtain ⟨hs, hm, hh, hd, hmo, hw, hy⟩ := hb
  simp [clockOperandBytes, encodeNumber_byte hs.symm, encodeNumber_byte hm.symm, encodeNumber_byte hh.symm,
    encodeNumber_byte hd.symm, encodeNumber_byte hmo.symm, encodeNumber_byte hw.symm, encodeNumber_byte hy.symm]

/-- Settles O3: a fixed code by evaluation, the operand and the reserved codes as the encoder writes them. -/
theorem hostopCodesAsNumbered : Obligations.HostopCodesAsNumbered := by
  intro p rest
  refine ⟨rfl, rfl, fun s m h d mo w y hb => ?clock, rfl, rfl, fun a b => ?enable, rfl, fun a b => ?enc,
    fun l => ?btn, fun op arg h => ⟨?reserved, fun _ => rfl⟩⟩
  case clock =>
    have h := decodeClockOperand_bytes ⟨s.toNat, m.toNat, h.toNat, d.toNat, mo.toNat, w.toNat, y.toNat⟩ rest
    rw [clockOperandBytes_bytes hb] at h
    exact h
  case enable => cases a <;> cases b <;> rfl
  case enc => cases a <;> cases b <;> rfl
  case btn => cases l <;> rfl
  case reserved => rw [ofNat_eq_byteOf, decode_reserved p (hostopAssigned_eq_false h)]

/-- Settles O4: each word is read by evaluation. -/
theorem wordsWrittenOutDecode : Obligations.WordsWrittenOutDecode :=
  ⟨rfl, rfl, rfl, rfl, rfl, rfl, rfl, rfl, rfl, rfl, rfl, rfl⟩

/-! ### Lines a reader must not take (O5) -/

/-- A line that the decoder of its format rejects is refused with the decoder's reason (R118). -/
theorem step_unreadable {s : State} {l : Line} {items : List Item} {e : DecodeError}
    (hs : s.env.script = .line l :: items) (h : decode s.cfg l.fmt l.bytes = .error e) :
    step s = .refused (.unreadableLine e) := by
  rw [step_line hs, takeLine, h]

/-- Event codes 5 to 7 (R112). -/
theorem decodeEvent_reserved {b : Byte} (h5 : 5 ≤ b.toNat) (h7 : b.toNat ≤ 7) :
    decodeEvent b = .error .reservedEvent := by
  obtain h | h | h : b.toNat = 5 ∨ b.toNat = 6 ∨ b.toNat = 7 := by omega
  all_goals rw [eq_ofNat_of_toNat h]; rfl

/-- Record codes with kind 3 (R113). -/
theorem decodeRecord_reserved {b : Byte} (h6 : 6 ≤ b.toNat) (h7 : b.toNat ≤ 7) :
    decodeRecord b = .error .reservedRecord := by
  obtain h | h : b.toNat = 6 ∨ b.toNat = 7 := by omega
  all_goals rw [eq_ofNat_of_toNat h]; rfl

/-- Result codes 5 to 7 (R291). -/
theorem decodeResult_reserved {b : Byte} (h5 : 5 ≤ b.toNat) (h7 : b.toNat ≤ 7) :
    decodeResult b = .error .reservedResult := by
  obtain h | h | h : b.toNat = 5 ∨ b.toNat = 6 ∨ b.toNat = 7 := by omega
  all_goals rw [eq_ofNat_of_toNat h]; rfl

/-- The codes of the two edge operations (R115). -/
theorem decode_edge (p : Params) {b : Byte}
    (h : (0x80 ≤ b.toNat ∧ b.toNat ≤ 0x83) ∨ b.toNat = 0x90 ∨ b.toNat = 0x91) :
    ∃ i, decode p .hostop [b] = .ok (i, []) ∧ needsTime i = true := by
  obtain h | h | h | h | h | h : b.toNat = 0x80 ∨ b.toNat = 0x81 ∨ b.toNat = 0x82 ∨ b.toNat = 0x83 ∨
      b.toNat = 0x90 ∨ b.toNat = 0x91 := by omega
  all_goals
    rw [eq_ofNat_of_toNat h]
    exact ⟨_, rfl, rfl⟩

/-- Settles O5: the decoder refuses, or the line without its TIME, or the reserved code when it is executed. -/
theorem reservedCodesAndTimelessEdgesAreRefused : Obligations.ReservedCodesAndTimelessEdgesAreRefused := by
  intro s l items hs
  refine ⟨fun op arg hr hb hf hbytes => ?reserved, fun b h5 h7 hf hbytes => ?event, fun b h6 h7 hf hbytes => ?record,
    fun b h5 h7 hf hbytes => ?result, fun b hb hf hbytes ht => ?edge⟩
  case reserved =>
    have hd : decode s.cfg l.fmt l.bytes = .ok (.hostopReserved op arg, []) := by
      rw [hf, hbytes]; exact decode_reserved s.cfg hr []
    rw [step_line hs, takeLine_exec hd (fun h => nomatch h) hb (.inr rfl)]
    rfl
  case event =>
    refine step_unreadable hs ?_
    rw [hf, hbytes, decode, decodeEvent_reserved h5 h7, oneByte]
  case record =>
    refine step_unreadable hs ?_
    rw [hf, hbytes, decode, decodeRecord_reserved h6 h7, oneByte]
  case result =>
    refine step_unreadable hs ?_
    rw [hf, hbytes, decode, decodeResult_reserved h5 h7, oneByte]
  case edge =>
    obtain ⟨i, hd, hi⟩ := decode_edge s.cfg hb
    rw [← hf, ← hbytes] at hd
    rw [step_line hs, takeLine, hd]
    simp [hi, ht]

end Sys2Proof.Codes

/-! ## BCD, the hours byte and the transition table (O32, O33, O44) -/

namespace Sys2Proof.Machine

/-! ### BCD and the hours byte (O32, O33) -/

/-- Decoding takes a byte as its two digits (R95). -/
theorem bcdDec_eq (b : Byte) : bcdDec b = 10 * (b.toNat / 16) + b.toNat % 16 := by
  have hb := Codes.toNat_eq_nibbles b
  have hlow := (lowNibble b).isLt
  rw [bcdDec, hb]
  omega

/-- The code of a value with at most two digits (R96). -/
theorem bcdEnc_toNat {v : Nat} (hv : v ≤ 99) : (bcdEnc v).toNat = 16 * (v / 10) + v % 10 := by
  have htens : (BitVec.ofNat 4 (v / 10)).toNat = v / 10 := by
    rw [BitVec.toNat_ofNat]
    exact Nat.mod_eq_of_lt (by omega)
  have hunits : (BitVec.ofNat 4 (v % 10)).toNat = v % 10 := by
    rw [BitVec.toNat_ofNat]
    exact Nat.mod_eq_of_lt (by omega)
  have h := Codes.toNat_eq_nibbles (byteOf (BitVec.ofNat 4 (v / 10)) (BitVec.ofNat 4 (v % 10)))
  rw [Codes.highNibble_byteOf, Codes.lowNibble_byteOf, htens, hunits] at h
  exact h

theorem bcdDec_bcdEnc {v : Nat} (hv : v ≤ 99) : bcdDec (bcdEnc v) = v := by
  rw [bcdDec_eq, bcdEnc_toNat hv]
  omega

/-- Settles O33: a byte of two digits is a number of two digits. -/
theorem bcdRoundTrip : Obligations.BcdRoundTrip := by
  have bound (b : Byte) (ht : b.toNat / 16 ≤ 9) (hu : b.toNat % 16 ≤ 9) : bcdDec b ≤ 99 := by
    rw [bcdDec_eq]
    omega
  refine ⟨bcdDec_eq, bound, fun v hv => ⟨bcdEnc_toNat hv, bcdDec_bcdEnc hv⟩, fun b ht hu => ?_⟩
  apply BitVec.eq_of_toNat_eq
  rw [bcdEnc_toNat (bound b ht hu), bcdDec_eq]
  omega

/-- The hour of a 12-hour byte is in bits 4 to 0 (R106). -/
theorem hour12Of_eq (b : Byte) : hour12Of b = 10 * (b.toNat / 16 % 2) + b.toNat % 16 := by
  have h : (BitVec.setWidth 8 (b.extractLsb' 0 5)).toNat = b.toNat % 32 := by
    simp only [BitVec.toNat_setWidth, BitVec.extractLsb'_toNat, Nat.shiftRight_zero]
    omega
  rw [hour12Of, bcdDec_eq, h]
  omega

/-- The mode bit (R105). -/
theorem getLsbD_seven (b : Byte) : b.getLsbD 7 = decide (128 ≤ b.toNat) := by
  have hlt := b.isLt
  rw [BitVec.getLsbD, Nat.testBit_eq_decide_div_mod_eq]
  exact decide_eq_decide.mpr (by omega)

/-- Bit 7 clear: the hour of 24 in BCD (R105, R171). -/
theorem hourDec_clear {b : Byte} (h : b.toNat < 128) (policy : HourPolicy) : hourDec policy b = some (bcdDec b) := by
  unfold hourDec
  rw [getLsbD_seven, decide_eq_false (by omega), if_neg Bool.false_ne_true]

theorem hourDec_set_reject {b : Byte} (h : 128 ≤ b.toNat) : hourDec .reject b = none := by
  simp only [hourDec, getLsbD_seven, decide_eq_true h, if_true]

/-- Bit 7 set: the hour of 12, where it is one, with bit 5 for the afternoon (R106, R171). -/
theorem hourDec_set_reconstruct {b : Byte} (h : 128 ≤ b.toNat) :
    hourDec .reconstruct b =
      if hour12Of b < 1 ∨ hour12Of b > 12 then none else some (hour12Of b % 12 + 12 * (b.toNat / 32 % 2)) := by
  have hpm : (b.getLsbD 5).toNat = b.toNat / 32 % 2 := by
    rw [BitVec.getLsbD, Nat.toNat_testBit]
  simp only [hourDec, getLsbD_seven, decide_eq_true h, if_true, Bool.or_eq_true, decide_eq_true_eq, hpm]

/-- Settles O32, by the mode bit and the policy. -/
theorem hourByteDecoding : Obligations.HourByteDecoding := by
  intro b h12
  have h12of : hour12Of b = h12 := hour12Of_eq b
  refine ⟨fun h policy => ?_, hourDec_set_reject, fun h hout => ?_, fun h hlo hhi => ?_⟩
  · rw [hourDec_clear h, bcdDec_eq]
  · rw [hourDec_set_reconstruct h, h12of, if_pos hout]
  · rw [hourDec_set_reconstruct h, h12of, if_neg (by omega)]

/-! ### The transition table (O44) -/

/-- A step of +1 is the one up the cycle 00, 10, 11, 01, or down it with `DIR_SWAP` (R110, R111). -/
theorem transitionStep_eq_one_iff (swap : Bool) (p n : RawState) :
    transitionStep swap p n = 1 ↔ n = if swap then cyclePrev p else cycleNext p := by
  revert swap p n
  decide

/-- The cycle closes after four steps, up or down. -/
theorem cycle_closes (p : RawState) :
    cycleNext (cycleNext (cycleNext (cycleNext p))) = p ∧ cyclePrev (cyclePrev (cyclePrev (cyclePrev p))) = p := by
  revert p
  decide

/-- Settles O44: the sixteen entries one by one, and four steps around the cycle. -/
theorem transitionTableProperties : Obligations.TransitionTableProperties := by
  refine ⟨by decide, fun swap => ⟨by decide, ?_, ?_, ?_, ?_, ?_, ?_⟩⟩
  case refine_6 =>
    intro p0 p1 p2 p3 p4 h1 h2 h3 h4
    rw [transitionStep_eq_one_iff] at h1 h2 h3 h4
    subst h1 h2 h3 h4
    cases swap
    · exact (cycle_closes p0).1
    · exact (cycle_closes p0).2
  all_goals cases swap <;> decide

end Sys2Proof.Machine

/-! ## Codes out of their place (O40) -/

namespace Sys2Proof.Machine

/-! ### A micro-step whose place this is not -/

theorem inPlace_elsewhere {here : Bool} (h : ¬ here = true) (f : State → State) (s : State) : inPlace here f s = s :=
  if_neg h

section Task

variable {s : State} (hc : s.ctl.ctx = .task)
include hc

theorem busStep_elsewhere {here : Bool} (h : ¬ here = true) (f : State → State) :
    busStep (inPlace here f) s = .next s := by
  rw [busStep_task hc, inPlace_elsewhere h]

theorem popOf_elsewhere {e : PendingEvent} (h : s.chan.slot ≠ e) : popOf e s = .next s := by
  rw [popOf, taskOnly_task hc, inPlace_elsewhere (by simpa using h)]

theorem readOf_elsewhere {isIt : Record → Bool} (h : s.chan.avail = true → ¬ isIt s.chan.record = true) :
    readOf isIt s = .next s := by
  rw [readOf, taskOnly_task hc, inPlace_elsewhere (by simpa using h)]

theorem exec_commandRow_elsewhere {p : Fin 9}
    (h : ∀ q, s.rtc.seq = .wPair q → commandRow q ≠ commandRow p ∨ s.rtc.phase ≠ .rest) :
    exec (commandRow p) s = .next s := by
  obtain ⟨here, e, hhere⟩ := exec_commandRow p s
  rw [e]
  refine busStep_elsewhere hc (fun hin => ?_) rtcByte
  obtain ⟨q, hq, hrow, hphase⟩ := hhere.mp hin
  obtain h | h := h q hq
  · exact h hrow
  · exact h hphase

theorem atData_elsewhere {p : Fin 9} (h : s.rtc.seq ≠ .wPair p ∨ s.rtc.phase ≠ .data .load) :
    busStep (inPlace (atData p s) rtcByte) s = .next s := by
  refine busStep_elsewhere hc (fun hin => ?_) rtcByte
  simp only [atData, Bool.and_eq_true, decide_eq_true_eq] at hin
  obtain ⟨hseq, hphase⟩ := hin
  obtain h | h := h
  · exact h hseq
  · exact h hphase

theorem exec_rdataRow_elsewhere {j : Fin 8} {b : Byte}
    (h : s.rtc.phase ≠ .data .load ∨ s.rtc.seq ≠ .rData j ∧
      (∀ p, s.rtc.seq = .wPair p → p.val ≠ j.val + 1 ∨ j.val = 7 ∨ b ≠ pairData s.cfg s.rtc.wbuf p)) :
    exec (rdataRow j b) s = .next s := by
  rw [exec_rdataRow, busStep_task hc, dataByte]
  obtain h | ⟨hread, hwrite⟩ := h
  · rw [if_neg h]
  split
  case isFalse => rfl
  split
  next j' hj' =>
    have hne : j' ≠ j := fun he => hread (he ▸ hj')
    rw [if_neg hne]
  next p hp =>
    refine congrArg _ (inPlace_elsewhere (fun hin => ?_) rtcByte s)
    simp only [Bool.and_eq_true, decide_eq_true_eq] at hin
    obtain ⟨⟨hpair, hfield⟩, hbyte⟩ := hin
    obtain h | h | h := hwrite p hp
    · exact h hpair
    · omega
    · exact h hbyte
  next => rfl

theorem exec_sframeRow_elsewhere {n : Fin 5} {b : Byte} (h : ∀ i, s.sensor.seq = .bitHi i → i.val ≠ 8 * n.val) :
    exec (sframeRow n b) s = .next s := by
  rw [exec_sframeRow, busStep_task hc, frameByte]
  split
  next i hi => rw [if_neg (h i hi)]
  next => rfl

theorem exec_errTimeout_elsewhere (h : wantedLevel s.sensor.seq = none) : exec .errTimeout s = .next s :=
  busStep_elsewhere hc (by simp [timesOut, h]) (sensorTick none)

theorem exec_errChecksumMismatch_elsewhere (h : s.sensor.seq ≠ .check ∨ checksumGood s.sensor.frame = true) :
    exec .errChecksumMismatch s = .next s := by
  refine busStep_elsewhere hc (fun hin => ?_) (sensorTick none)
  simp only [Bool.and_eq_true, decide_eq_true_eq, Bool.not_eq_true'] at hin
  obtain ⟨hseq, hbad⟩ := hin
  obtain h | h := h
  · exact h hseq
  · exact absurd (h.symm.trans hbad) Bool.noConfusion

theorem exec_errOK_elsewhere (hs : s.sensor.seq ≠ .check) (hd : s.rtc.seq ≠ .rDecode)
    (hp : s.rtc.seq ≠ .wPair 8 ∨ s.rtc.phase ≠ .finish) : exec .errOK s = .next s := by
  have hend : ¬ clockEndsWell s = true := by
    unfold clockEndsWell
    split
    next h => exact absurd h hd
    next p h =>
      simp only [Bool.and_eq_true, decide_eq_true_eq, not_and]
      intro hp8 hphase
      obtain rfl : p = 8 := Fin.ext hp8
      obtain hp | hp := hp
      · exact hp h
      · exact hp hphase
    next => exact Bool.false_ne_true
  rw [exec, execErrOK, busStep_task hc, if_neg (fun h => hs h.1), inPlace_elsewhere hend]

theorem exec_errRangeError_elsewhere (hd : s.rtc.seq ≠ .rDecode) (hw : s.rtc.seq ≠ .wCheck) :
    exec .errRangeError s = .next s := by
  rw [exec, execErrRangeError, busStep_task hc]
  cases h : s.rtc.seq with
  | rDecode => exact absurd h hd
  | wCheck => exact absurd h hw
  | _ => rfl

/-- A record code where there is no record to read, or another (R113, R254). -/
theorem exec_record_elsewhere {i : Instr} (hi : i ∈ [Instr.lrecNone, .lrecRotPlus, .lrecRotMinus, .lrecBtn])
    (h : s.chan.avail = false ∨ (i, s.chan.record) ∉ recordRows) : exec i s = .next s := by
  have elsewhere {isIt : Record → Bool} (hrow : ∀ r, isIt r = true → (i, r) ∈ recordRows) :
      readOf isIt s = .next s := by
    refine readOf_elsewhere hc (fun havail hin => ?_)
    obtain h | h := h
    · exact Bool.false_ne_true (h.symm.trans havail)
    · exact h (hrow _ hin)
  simp only [List.mem_cons, List.not_mem_nil, or_false] at hi
  rcases hi with rfl | rfl | rfl | rfl
  all_goals
    rw [exec]
    refine elsewhere fun r hr => ?_
    obtain ⟨kind, dir⟩ := r
    cases kind <;> cases dir <;> simp [recordRows] at hr ⊢

/-- No sound state has a record None to read (R254, C9). -/
theorem exec_lrecNone_sound (h : Inv s) : exec .lrecNone s = .next s := by
  rw [exec]
  exact readOf_elsewhere hc fun havail => by simpa using h.avail_record.mp havail

end Task

theorem tableEntry_elsewhere {s : State} {prev : RawState} (h : s.quad.rotEn = false ∨ s.quad.prev ≠ prev)
    (new : RawState) : tableEntry prev new s = s := by
  refine inPlace_elsewhere (fun hin => ?_) _ s
  simp only [Bool.and_eq_true, decide_eq_true_eq] at hin
  obtain ⟨hen, hprev⟩ := hin
  obtain h | h := h
  · exact Bool.false_ne_true (h.symm.trans hen)
  · exact h hprev

/-- Settles O40, code by code. -/
theorem codesOutOfPlaceDoNothing : Obligations.CodesOutOfPlaceDoNothing := by
  intro s hc
  refine ⟨fun p => exec_commandRow_elsewhere hc, fun h => ?burst, atData_elsewhere hc, atData_elsewhere hc,
    fun j b => exec_rdataRow_elsewhere hc, fun n b => exec_sframeRow_elsewhere hc, fun prev new h => ?table,
    exec_errTimeout_elsewhere hc, exec_errChecksumMismatch_elsewhere hc, exec_errOK_elsewhere hc,
    exec_errRangeError_elsewhere hc, fun q hq h => ?event, fun i hi => exec_record_elsewhere hc hi,
    exec_lrecNone_sound hc⟩
  case burst =>
    refine busStep_elsewhere hc (fun hin => ?_) rtcByte
    simp only [Bool.and_eq_true, decide_eq_true_eq] at hin
    exact h.elim (· hin.1) (· hin.2)
  case table => rw [exec_transitionRow, tableEntry_elsewhere h]
  case event =>
    simp only [List.mem_cons, List.not_mem_nil, or_false] at hq
    rcases hq with rfl | rfl | rfl | rfl | rfl <;> exact popOf_elsewhere hc h

end Sys2Proof.Machine

/-! ## READ_SENSOR to its end, whatever the sensor answers (O17, O20, O21) -/

namespace Sys2Proof.Machine

/-! ### The positions of a transfer in their order -/

/-- The position that follows a position of the critical section when no wait times out (R131). -/
def nextPlace : SSeq → SSeq
  | .hs1 => .hs2
  | .hs2 => .hs3
  | .hs3 => .bitHi 0
  | .bitHi i => .bitSample i
  | .bitSample i => .bitLo i
  | .bitLo i => if h : i.val + 1 < 40 then .bitHi ⟨i.val + 1, h⟩ else .check
  | q => q

/-- How many micro-steps a read has left at a position of its transfer: three for each bit, one for CHECK (R131). -/
def ticksLeft : SSeq → Nat
  | .hs1 => 124
  | .hs2 => 123
  | .hs3 => 122
  | .bitHi i => 121 - 3 * i.val
  | .bitSample i => 120 - 3 * i.val
  | .bitLo i => 119 - 3 * i.val
  | _ => 1

/-- The number of the first wait step that is not over at a position of a transfer, 84 when all 83 are (R21, R131). -/
def nextWait : SSeq → Nat
  | .bitSample i => 5 + 2 * i.val
  | .check => 84
  | q => (waitStep q).getD 0

theorem ticksLeft_pos (q : SSeq) : 1 ≤ ticksLeft q := by
  cases q <;> simp only [ticksLeft] <;> omega

theorem ticksLeft_nextPlace {q : SSeq} (hq : inCritical q = true) : ticksLeft (nextPlace q) + 1 = ticksLeft q := by
  cases q with
  | idle | wake | release | check => cases hq
  | hs1 | hs2 | hs3 => rfl
  | bitHi i | bitSample i => simp only [nextPlace, ticksLeft]; omega
  | bitLo i =>
    simp only [nextPlace]
    split <;> simp only [ticksLeft] <;> omega

/-- A wait step whose turn is still to come is not passed over (R131). -/
theorem nextWait_nextPlace {q : SSeq} {k : Nat} (hq : inCritical q = true) (h : nextWait q ≤ k)
    (hk : waitStep q ≠ some k) : nextWait (nextPlace q) ≤ k := by
  cases q with
  | idle | wake | release | check => cases hq
  | hs1 | hs2 | hs3 | bitHi i =>
    simp [nextWait, nextPlace, waitStep] at h hk ⊢
    omega
  | bitSample i => exact h
  | bitLo i =>
    simp [nextWait, waitStep] at h hk
    simp only [nextPlace]
    split <;> simp [nextWait, waitStep] <;> omega

/-- There are 83 wait steps: three of the handshake, two for each of the 40 bits (R21). -/
theorem waitStep_bounds {q : SSeq} {k : Nat} (h : waitStep q = some k) : 1 ≤ k ∧ k ≤ 83 := by
  cases q <;> simp [waitStep] at h <;> omega

/-! ### The beginning of a read, and its two ends -/

/-- `s` as the transfer of READ_SENSOR begins at TIME `t`: the waveform counts from here (R62, R134). -/
def atHs1 (s : State) (t : Nat) : State :=
  inTransfer (inRead s) .hs1 s.sensor.frame s.sensor.bitcnt t { s.aux with sClock := t, sHs1 := t }

/-- WAKE takes its lower bound and RELEASE its upper one when no other duration is asked for (R132, R133, log 17). -/
theorem startSensor_to_hs1 (s : State) :
    sensorTick none (sensorTick none (startSensor s)) = atHs1 s (s.time + s.cfg.tWake + s.cfg.tRel) := by
  have hwake : wakeEnd none (startSensor s) = s.time + s.cfg.tWake := by
    simp [wakeEnd, startSensor]
  have htick : sensorTick none (startSensor s) =
      sensorTo .release (driveSdata .drive1
        { timeTo (s.time + s.cfg.tWake) (startSensor s) with aux.sClock := s.time + s.cfg.tWake }) := by
    rw [← hwake]; rfl
  rw [htick]
  simp [sensorTick, startSensor, releaseEnd, timeTo, driveSdata, sensorTo, acquire, atHs1, inTransfer, inRead,
    Nat.add_assoc]

/-- READ_SENSOR from task context with the bus free is the transfer from `HS1` on (R130, R131). -/
theorem exec_readSensor_eq {s : State} (hc : s.ctl.ctx = .task) (hl : s.ctl.lock = .free)
    (hs : s.sensor.seq = .idle) :
    exec .readSensor s = .next (runSensor 124 (atHs1 s (s.time + s.cfg.tWake + s.cfg.tRel))) := by
  have hready : sensorReady s = true := by simp [sensorReady, hl, hs]
  have hrun : runSensor (124 + 2) (startSensor s) =
      runSensor 124 (atHs1 s (s.time + s.cfg.tWake + s.cfg.tRel)) := by
    rw [runSensor_succ (by simp [startSensor]), runSensor_succ (by simp [sensorTick, startSensor]),
      startSensor_to_hs1]
  rw [exec, execReadSensor, busStep_task hc, if_pos hready]
  exact congrArg _ hrun

section Ends

variable {s : State} {t : Nat} (ht : s.time + s.cfg.tWake ≤ t)
include ht

/-- A timeout at any position of the transfer ends the read with all of its exit actions (R142, R292, R296). -/
theorem sensorEnds_timeout (q : SSeq) (fr : Vector Byte 5) (c : Nat) (a : Aux) (k : Nat) :
    SensorEnds s
      (raiseSensor .timeout k (recordEvent (.sensorTimeout k) (inTransfer (inRead s) q fr c t a))) (.timeoutAt k) := by
  rw [raiseSensor_eq]
  constructor
  case result => exact ⟨rfl, rfl, rfl, rfl⟩
  case wake_time => exact ht
  all_goals rfl

/-- `CHECK` ends the read by the frame it finds (R130, R141, R142, R150). -/
theorem sensorEnds_check (fr : Vector Byte 5) (a : Aux) :
    SensorEnds s (sensorTick none (atCheck (inRead s) fr t a)) (.frame fr) := by
  rw [sensorTick_check rfl]
  split
  next hg =>
    rw [finishSensor_eq]
    constructor
    case result =>
      refine ⟨rfl, ?_⟩
      rw [if_pos ((checksumGood_iff fr).mp hg)]
      exact ⟨rfl, rfl, rfl, rfl, rfl⟩
    case wake_time => exact ht
    all_goals rfl
  next hg =>
    rw [raiseSensor_eq]
    constructor
    case result =>
      refine ⟨rfl, ?_⟩
      rw [if_neg (hg ∘ (checksumGood_iff fr).mpr)]
      exact ⟨rfl, rfl, rfl⟩
    case wake_time => exact ht
    all_goals rfl

end Ends

/-! ### Micro-steps of a transfer, whatever the answer -/

/-- The states of the read of `s` from `HS1` to `CHECK`, by their position: nothing outside the engine has been touched but
what the critical section needs, the wake pulse is over, and the bits are counted (R22, R131, R134). -/
inductive Reading (s : State) : SSeq → State → Prop
  | critical {q : SSeq} {fr : Vector Byte 5} {c t : Nat} {a : Aux} (hq : inCritical q = true)
      (hbits : ∀ n, bitsReceivedAt q = some n → c = n) (ht : s.time + s.cfg.tWake ≤ t) :
      Reading s q (inTransfer (inRead s) q fr c t a)
  | check {fr : Vector Byte 5} {t : Nat} {a : Aux} (ht : s.time + s.cfg.tWake ≤ t) :
      Reading s .check (atCheck (inRead s) fr t a)

theorem Reading.not_idle {s u : State} {q : SSeq} (h : Reading s q u) : u.sensor.seq ≠ .idle := by
  cases h with
  | critical hq _ _ => rintro rfl; cases hq
  | check ht => exact SSeq.noConfusion

/-- A timeout answered is that of the wait step it names and of no other (R62, log 7). -/
theorem waitOutcome_timeoutAt {s : State} {j : Nat} (ha : sensorAnswer s = .timeoutAt j) (v : Bool) :
    (waitOutcome v s).1 = false ↔ waitStep s.sensor.seq = some j := by
  simp only [waitOutcome, ha]
  split <;> simp_all

/-- A wait that times out takes its whole budget (R140, log 34). -/
theorem waitOutcome_budget {s : State} {v : Bool} (h : (waitOutcome v s).1 = false) :
    (waitOutcome v s).2 = s.aux.sClock + s.cfg.waitMaxIter * s.cfg.tPoll := by
  simp only [waitOutcome] at h ⊢
  cases ha : sensorAnswer s with
  | wave w =>
    simp only [ha] at h ⊢
    split at h
    next => cases h
    next => rfl
  | frame f => simp [ha] at h
  | timeoutAt k =>
    simp only [ha] at h ⊢
    split at h
    next hk => rw [if_pos hk]
    next => cases h

/-- A wait writes TIME, which never goes back, and what the engine keeps of it, nothing else (R45, R140). -/
theorem waitLevel_inTransfer (s : State) (q : SSeq) (fr : Vector Byte 5) (c t : Nat) (a : Aux) (v : Bool) :
    ∃ t' a', waitLevel v (inTransfer s q fr c t a) = inTransfer s q fr c t' a' ∧ t ≤ t' :=
  ⟨_, _, rfl, Nat.le_max_left _ _⟩

/-- A wait of the transfer: it goes on with the next position, or its timeout ends the read (R139, R140). -/
theorem waitThen_reading {s : State} {q q' : SSeq} {k : Nat} {fr : Vector Byte 5} {c t : Nat} {a : Aux} {v : Bool}
    {onward : State → State} (hk : waitStep q = some k) (ht : s.time + s.cfg.tWake ≤ t)
    (hon : ∀ t' a', s.time + s.cfg.tWake ≤ t' → Reading s q' (onward (inTransfer (inRead s) q fr c t' a'))) :
    (Reading s q' (waitThen v onward (inTransfer (inRead s) q fr c t a)) ∧
        ∀ j, sensorAnswer s = .timeoutAt j → waitStep q ≠ some j) ∨
      (∃ j, waitStep q = some j ∧ (∀ m, sensorAnswer s = .timeoutAt m → j = m) ∧
        SensorEnds s (waitThen v onward (inTransfer (inRead s) q fr c t a)) (.timeoutAt j)) := by
  obtain ⟨t', a', e, hle⟩ := waitLevel_inTransfer (inRead s) q fr c t a v
  have ht' : s.time + s.cfg.tWake ≤ t' := Nat.le_trans ht hle
  have hstep (j : Nat) (ha : sensorAnswer s = .timeoutAt j) :
      (waitOutcome v (inTransfer (inRead s) q fr c t a)).1 = false ↔ waitStep q = some j :=
    waitOutcome_timeoutAt (s := inTransfer (inRead s) q fr c t a) ha v
  obtain ⟨hok, h⟩ | ⟨hout, h⟩ := waitThen_cases v onward (inTransfer (inRead s) q fr c t a)
  · refine .inl ⟨by rw [h, e]; exact hon t' a' ht', fun j ha hj => ?_⟩
    exact Bool.false_ne_true (((hstep j ha).mpr hj).symm.trans hok)
  · have hk' : waitStep (inTransfer (inRead s) q fr c t a).sensor.seq = some k := hk
    refine .inr ⟨k, hk, fun m ha => Option.some.inj (hk.symm.trans ((hstep m ha).mp hout)), ?_⟩
    rw [h, hk', e]
    exact sensorEnds_timeout ht' q fr c a' k

/-- After a bit comes the next one, and `CHECK` after the last (R131, R134). -/
theorem afterBit_reading {s : State} (i : Fin 40) (fr : Vector Byte 5) {t : Nat} (a : Aux)
    (ht : s.time + s.cfg.tWake ≤ t) :
    Reading s (nextPlace (.bitLo i)) (afterBit i (inTransfer (inRead s) (.bitLo i) fr (i.val + 1) t a)) := by
  by_cases hi : i.val + 1 < 40
  · rw [afterBit, dif_pos hi, nextPlace, dif_pos hi]
    exact .critical rfl (fun _ => Option.some.inj) ht
  · obtain rfl : i = 39 := by omega
    exact .check ht

/-- What a micro-step of a transfer can do, against any answer (R139). -/
theorem sensorTick_reading {s u : State} {q : SSeq} (h : Reading s q u) (hq : q ≠ .check) :
    (Reading s (nextPlace q) (sensorTick none u) ∧ ∀ j, sensorAnswer s = .timeoutAt j → waitStep q ≠ some j) ∨
      (∃ j, waitStep q = some j ∧ (∀ m, sensorAnswer s = .timeoutAt m → j = m) ∧
        SensorEnds s (sensorTick none u) (.timeoutAt j)) := by
  cases h with
  | check ht => exact absurd rfl hq
  | @critical q fr c t a hcrit hbits ht =>
    cases q with
    | idle | wake | release | check => cases hcrit
    | hs1 | hs2 => exact waitThen_reading rfl ht fun _ _ ht' => .critical rfl nofun ht'
    | hs3 =>
      refine waitThen_reading rfl ht (onward := fun s' =>
        sensorTo (.bitHi 0) { s' with sensor.frame := Vector.replicate 5 0, sensor.bitcnt := 0 }) fun _ _ ht' => ?_
      exact .critical (q := .bitHi 0) rfl (fun _ => Option.some.inj) ht'
    | bitHi i => exact waitThen_reading rfl ht fun _ _ ht' => .critical rfl hbits ht'
    | bitSample i =>
      refine .inl ⟨?_, fun j _ => nofun⟩
      exact .critical (a := (sampleLine (inTransfer (inRead s) (.bitSample i) fr c t a)).aux) rfl
        (fun _ => Option.some.inj) (Nat.le_trans ht (Nat.le_max_left _ _))
    | bitLo i =>
      obtain rfl : c = i.val + 1 := hbits _ rfl
      exact waitThen_reading rfl ht fun _ _ ht' => afterBit_reading i fr _ ht'

/-- A read comes to its end from any position of its transfer, whatever the sensor does: with a frame, or with the timeout
of a wait step, which is the step answered if the answer is one (R62, R131, R139). -/
theorem reading_ends {s u : State} {q : SSeq} {n : Nat} (h : Reading s q u) (hn : ticksLeft q ≤ n) :
    ∃ o, SensorEnds s (runSensor n u) o ∧
      (∀ k, o = .timeoutAt k → 1 ≤ k ∧ k ≤ 83) ∧
      (∀ k, sensorAnswer s = .timeoutAt k → nextWait q ≤ k → k ≤ 83 → o = .timeoutAt k) := by
  induction n generalizing q u with
  | zero => exact absurd (ticksLeft_pos q) (by omega)
  | succ n ih =>
    rw [runSensor_succ h.not_idle]
    by_cases hq : q = .check
    · subst hq
      obtain ⟨fr, hend⟩ : ∃ fr, SensorEnds s (sensorTick none u) (.frame fr) := by
        cases h with
        | critical hcrit => cases hcrit
        | check ht => exact ⟨_, sensorEnds_check ht _ _⟩
      rw [runSensor_idle hend.idle]
      exact ⟨.frame fr, hend, nofun, fun k _ hk hk' => absurd hk (by simp only [nextWait]; omega)⟩
    · have hcrit : inCritical q = true := by
        cases h with
        | critical hcrit => exact hcrit
        | check => exact absurd rfl hq
      have hleft := ticksLeft_nextPlace hcrit
      obtain ⟨hnext, hpass⟩ | ⟨j, hj, heq, hend⟩ := sensorTick_reading h hq
      · obtain ⟨o, hend, hbound, hans⟩ := ih hnext (by omega)
        exact ⟨o, hend, hbound, fun k ha hk => hans k ha (nextWait_nextPlace hcrit hk (hpass k ha))⟩
      · rw [runSensor_idle hend.idle]
        refine ⟨.timeoutAt j, hend, fun k hk => ?_, fun k ha _ _ => congrArg _ (heq k ha)⟩
        cases hk
        exact waitStep_bounds hj

/-- READ_SENSOR ends, whatever the sensor answers: with a frame, or with the timeout of a wait step, which is the step
answered if the answer is one (R62, R131, R139). -/
theorem exec_readSensor_ends {s : State} (hc : s.ctl.ctx = .task) (hl : s.ctl.lock = .free)
    (hs : s.sensor.seq = .idle) :
    ∃ t o, exec .readSensor s = .next t ∧ SensorEnds s t o ∧
      (∀ k, o = .timeoutAt k → 1 ≤ k ∧ k ≤ 83) ∧
      (∀ k, sensorAnswer s = .timeoutAt k → 1 ≤ k → k ≤ 83 → o = .timeoutAt k) := by
  have hstart : Reading s .hs1 (atHs1 s (s.time + s.cfg.tWake + s.cfg.tRel)) :=
    .critical rfl nofun (Nat.le_add_right _ _)
  obtain ⟨o, hend, hbound, hans⟩ := reading_ends hstart (n := 124) (Nat.le_refl _)
  exact ⟨_, o, exec_readSensor_eq hc hl hs, hend, hbound, hans⟩

/-! ### The outcomes of READ_SENSOR (O17, O21) -/

theorem sensorTick_atCheck_time (s : State) (fr : Vector Byte 5) (t : Nat) (a : Aux) :
    (sensorTick none (atCheck s fr t a)).time = t := by
  rw [sensorTick_check rfl]
  split
  next => rw [finishSensor_eq]; rfl
  next => rw [raiseSensor_eq]; rfl

/-- Settles O17: a frame answered comes to `CHECK`, a timeout answered ends its wait step. -/
theorem sensorReadByOutcome : Obligations.SensorReadByOutcome := by
  intro s hc hl hs
  obtain ⟨u, o, hu, hend, _, htimeout⟩ := exec_readSensor_ends hc hl hs
  refine ⟨fun f ha => ?frame, fun k h1 h83 ha => ?timeout⟩
  case frame =>
    obtain ⟨t, a, e⟩ := exec_readSensor_frame hc hl hs ha
    have hcheck : exec .readSensor s = .next (sensorTick none (atCheck (inRead s) f t a)) := e
    obtain rfl : u = sensorTick none (atCheck (inRead s) f t a) :=
      Host.Outcome.next.inj (hu.symm.trans hcheck)
    have ht := hend.wake_time
    rw [sensorTick_atCheck_time] at ht
    exact ⟨_, hcheck, sensorEnds_check ht f a⟩
  case timeout =>
    obtain rfl := htimeout k ha h1 h83
    exact ⟨u, hu, hend⟩

/-- An end of a read leaves one result in the registers of R130 and R142. -/
theorem SensorEnds.one_result {s t : State} {o : Transfer} (h : SensorEnds s t o)
    (hk : ∀ k, o = .timeoutAt k → 1 ≤ k ∧ k ≤ 83) :
    (t.sensor.valid = true ∧ t.sensor.serr = .ok ∧ t.sensor.serrStep = 0) ∨
      (t.sensor.valid = false ∧ t.sensor.serr = .timeout ∧ 1 ≤ t.sensor.serrStep ∧ t.sensor.serrStep ≤ 83) ∨
      (t.sensor.valid = false ∧ t.sensor.serr = .checksumMismatch ∧ t.sensor.serrStep = 0) := by
  have hresult := h.result
  cases o with
  | timeoutAt k =>
    obtain ⟨hvalid, herr, hstep, -⟩ := hresult
    exact .inr (.inl ⟨hvalid, herr, hstep ▸ hk k rfl⟩)
  | frame f =>
    obtain ⟨-, hresult⟩ := hresult
    split at hresult
    next =>
      obtain ⟨hvalid, -, -, herr, hstep⟩ := hresult
      exact .inl ⟨hvalid, herr, hstep⟩
    next => exact .inr (.inr hresult)

/-- Settles O21: the transfer comes to one of its ends, and each of them has every exit action. -/
theorem sensorReadAlwaysEnds : Obligations.SensorReadAlwaysEnds := by
  intro s hc hl hs
  obtain ⟨t, o, e, hend, hbound, _⟩ := exec_readSensor_ends hc hl hs
  exact ⟨t, e, hend.idle, congrArg ControlRegs.mask hend.ctl, congrArg Pins.sdata hend.pins,
    congrArg ControlRegs.lock hend.ctl, hend.one_result hbound, hend.rtc, hend.quad, hend.button, hend.chan⟩

/-! ### A silent line and a line stuck low (O20) -/

/-- A wait that no poll satisfies ends the read, one budget after it began (R140, R292). -/
theorem runSensor_timesOut {s : State} {q : SSeq} {fr : Vector Byte 5} {c t : Nat} {a : Aux} {v : Bool} {k : Nat}
    (hv : wantedLevel q = some v) (hk : waitStep q = some k) (ht : s.time + s.cfg.tWake ≤ t)
    (hw : (waitOutcome v (inTransfer (inRead s) q fr c t a)).1 = false) (n : Nat) :
    SensorEnds s (runSensor (n + 1) (inTransfer (inRead s) q fr c t a)) (.timeoutAt k) ∧
      (runSensor (n + 1) (inTransfer (inRead s) q fr c t a)).time =
        max t (a.sClock + s.cfg.waitMaxIter * s.cfg.tPoll) := by
  have hidle : q ≠ .idle := by rintro rfl; cases hv
  have hwait : waitLevel v (inTransfer (inRead s) q fr c t a) =
      inTransfer (inRead s) q fr c (max t (a.sClock + s.cfg.waitMaxIter * s.cfg.tPoll))
        (waitLevel v (inTransfer (inRead s) q fr c t a)).aux :=
    congrArg (fun t' => inTransfer (inRead s) q fr c (max t t') _) (waitOutcome_budget hw)
  have hlate := Nat.le_trans ht (Nat.le_max_left t (a.sClock + s.cfg.waitMaxIter * s.cfg.tPoll))
  have hend := sensorEnds_timeout hlate q fr c (waitLevel v (inTransfer (inRead s) q fr c t a)).aux k
  rw [runSensor_succ hidle, sensorTick_timesOut hv hk hw, hwait, runSensor_idle hend.idle]
  refine ⟨hend, ?_⟩
  rw [raiseSensor_eq]
  rfl

/-- With no sensor no poll finds the line low (R143). -/
theorem waitOutcome_silent {s : State} (ha : sensorAnswer s = .wave []) (t : Nat) :
    (waitOutcome false (atHs1 s t)).1 = false :=
  waitOutcome_timesOut (k := 1) rfl (.inr ⟨[], ha, fun _ _ => Bool.noConfusion⟩)

/-- The loop of WAIT_LEVEL returns at the first poll that has the level (R140). -/
theorem pollUntil_some {level : Nat → Bool} {v : Bool} {poll fuel now n : Nat} (hn : n ≤ fuel)
    (hbefore : ∀ m, m < n → level (now + m * poll) ≠ v) (hat : level (now + n * poll) = v) :
    pollUntil level v poll fuel now = some (now + n * poll) := by
  induction n generalizing now fuel with
  | zero =>
    have hnow : level now = v := by simpa using hat
    cases fuel <;> rw [pollUntil, if_pos hnow] <;> simp
  | succ n ih =>
    obtain ⟨fuel, rfl⟩ : ∃ f, fuel = f + 1 := ⟨fuel - 1, by omega⟩
    have hnow : level now ≠ v := by simpa using hbefore 0 (Nat.succ_pos n)
    have hshift (m : Nat) : now + (m + 1) * poll = now + poll + m * poll := by
      rw [Nat.succ_mul, Nat.add_comm (m * poll), Nat.add_assoc]
    rw [pollUntil, if_neg hnow, hshift]
    exact ih (by omega) (fun m hm => hshift m ▸ hbefore (m + 1) (by omega)) (hshift n ▸ hat)

section Stuck

variable {s : State} {d : Nat} (hd : s.cfg.waitMaxIter * s.cfg.tPoll < d) (ha : sensorAnswer s = .wave [(false, d)])
include hd ha

/-- The first wait finds a line stuck low at its first poll (R140). -/
theorem sensorTick_hs1_stuck (t : Nat) :
    sensorTick none (atHs1 s t) =
      inTransfer (inRead s) .hs2 s.sensor.frame s.sensor.bitcnt t
        { s.aux with sClock := t, sHs1 := t, waitOk := true } := by
  have hlow : sdataLevel .input [(false, d)] (t - t) = false := by
    simp [sdataLevel, waveLevel, Nat.zero_lt_of_lt hd]
  have hpoll : pollUntil (fun x => sdataLevel .input [(false, d)] (x - t)) false s.cfg.tPoll s.cfg.waitMaxIter t =
      some t := by
    simpa using
      pollUntil_some (n := 0) (poll := s.cfg.tPoll) (Nat.zero_le s.cfg.waitMaxIter) nofun (by simpa using hlow)
  have hout : waitOutcome false (atHs1 s t) = (true, t) := by
    have ha' : sensorAnswer (atHs1 s t) = .wave [(false, d)] := ha
    simp only [waitOutcome, ha']
    simp only [atHs1, inTransfer, inRead, hpoll]
  have htick : sensorTick none (atHs1 s t) = waitThen false (sensorTo .hs2) (atHs1 s t) := rfl
  rw [htick, waitThen, waitLevel, hout]
  simp [atHs1, inTransfer, timeTo, sensorTo]

/-- The second wait finds it low at every poll (R143). -/
theorem waitOutcome_hs2_stuck (t : Nat) :
    (waitOutcome true (inTransfer (inRead s) .hs2 s.sensor.frame s.sensor.bitcnt t
      { s.aux with sClock := t, sHs1 := t, waitOk := true })).1 = false := by
  refine waitOutcome_timesOut (k := 2) rfl (.inr ⟨_, ha, fun n hn => ?_⟩)
  have hlt : n * s.cfg.tPoll < d := Nat.lt_of_le_of_lt (Nat.mul_le_mul_right _ hn) hd
  simp [inTransfer, inRead, sdataLevel, waveLevel, hlt]

end Stuck

/-! ### WAIT_LEVEL on a waveform, phase by phase (R140) -/

/-- From `now` on the waveform `w` is `rest`. -/
def WaveFrom (w : List (Bool × Nat)) (now : Nat) (rest : List (Bool × Nat)) : Prop :=
  ∀ n, waveLevel w (now + n) = waveLevel rest n

theorem waveLevel_zero {v : Bool} {d : Nat} (hd : 0 < d) (rest : List (Bool × Nat)) :
    waveLevel ((v, d) :: rest) 0 = v :=
  if_pos hd

theorem waveFrom_zero (w : List (Bool × Nat)) : WaveFrom w 0 w := fun n => by rw [Nat.zero_add]

namespace WaveFrom

variable {w rest : List (Bool × Nat)} {now d : Nat} {v : Bool}

/-- The level inside a phase. -/
theorem level (h : WaveFrom w now ((v, d) :: rest)) {n : Nat} (hn : n < d) : waveLevel w (now + n) = v := by
  rw [h, waveLevel, if_pos hn]

/-- The next phase begins when this one ends. -/
theorem next (h : WaveFrom w now ((v, d) :: rest)) : WaveFrom w (now + d) rest := fun n => by
  rw [Nat.add_assoc, h, waveLevel, if_neg (by omega), Nat.add_sub_cancel_left]

/-- Polled every microsecond, WAIT_LEVEL returns as the phase with the other level ends, if that is inside the budget
(R140). -/
theorem waitOn_next {p : Params} (hp : p.tPoll = 1) (h : WaveFrom w now ((!v, d) :: rest)) (hrest : waveLevel rest 0 = v)
    {x : Nat} (hx : x ≤ d) (hbudget : d ≤ x + p.waitMaxIter) : waitOn p w v (now + x) = some (now + d) := by
  have hend : now + x + (d - x) * 1 = now + d := by omega
  rw [waitOn, hp, pollUntil_some (n := d - x) (by omega), hend]
  · intro m hm
    rw [show now + x + m * 1 = now + (x + m) by omega, h.level (by omega)]
    cases v <;> exact Bool.noConfusion
  · rw [hend, ← Nat.add_zero (now + d), h.next, hrest]

/-- At once, where the level is already there (R140). -/
theorem waitOn_now {p : Params} (h : WaveFrom w now ((v, d) :: rest)) {x : Nat} (hx : x < d) :
    waitOn p w v (now + x) = some (now + x) := by
  have hnow : waveLevel w (now + x + 0 * p.tPoll) = v := by simpa using h.level hx
  simpa [waitOn] using pollUntil_some (poll := p.tPoll) (Nat.zero_le p.waitMaxIter) nofun hnow

/-- After its last phase the line is high, and no wait finds it low (R62, R140). -/
theorem waitOn_idle {p : Params} (h : WaveFrom w now []) (x : Nat) : waitOn p w false (now + x) = none :=
  pollUntil_none fun n _ => by rw [Nat.add_assoc, h]; exact Bool.noConfusion

end WaveFrom

/-! ### A conforming sensor, bit by bit (R63, R136) -/

/-- The phases of a bit lie inside the wait budget and on their sides of the sample delay, polled every microsecond
(R63, R136, R137, R140). -/
structure BitTiming (p : Params) : Prop where
  poll : p.tPoll = 1
  low_pos : 1 ≤ p.tBitLow
  low_budget : p.tBitLow ≤ p.waitMaxIter
  zero_pos : 1 ≤ p.tBit0
  zero_over : p.tBit0 ≤ p.tSample
  zero_next : p.tSample < p.tBit0 + p.tBitLow
  one_lasts : p.tSample < p.tBit1
  one_budget : p.tBit1 ≤ p.tSample + p.waitMaxIter

/-- The first phase of bits that are followed by a low phase is a low phase (R63). -/
theorem bitWaves_begin_low (p : Params) (bs : List Bool) (rest : List (Bool × Nat)) :
    ∃ rest', bs.flatMap (bitWave p) ++ (false, p.tBitLow) :: rest = (false, p.tBitLow) :: rest' := by
  cases bs with
  | nil => exact ⟨rest, rfl⟩
  | cons b bs => exact ⟨_, rfl⟩

section Bits

variable {p : Params} (hp : BitTiming p) {w rest : List (Bool × Nat)}
include hp

/-- The bit sent is the bit stored, and the loop comes to the low phase of the next one (R136, R137, R139): just as it
begins after a 1, `T_SAMPLE_US - T_BIT0_US` into it after a 0. -/
theorem transferBits_bit {b : Bool} {now x i : Nat} (hw : WaveFrom w now (bitWave p b ++ (false, p.tBitLow) :: rest))
    (hx : x < p.tBitLow) (hi : i < 40) (n : Nat) (f : Vector Byte 5) :
    ∃ now' x', WaveFrom w now' ((false, p.tBitLow) :: rest) ∧ x' < p.tBitLow ∧
      transferBits p w (n + 1) i (now + x) f = transferBits p w n (i + 1) (now' + x') (storeBit f ⟨i, hi⟩ b) := by
  have hone := hp.one_lasts
  have hzero := hp.zero_next
  have hover := hp.zero_over
  have hhigh : WaveFrom w (now + p.tBitLow) ((true, if b then p.tBit1 else p.tBit0) :: (false, p.tBitLow) :: rest) :=
    hw.next
  have hpos : 0 < if b then p.tBit1 else p.tBit0 := by
    have := hp.zero_pos
    split <;> omega
  have hrise : waitOn p w true (now + x) = some (now + p.tBitLow) :=
    hw.waitOn_next hp.poll (waveLevel_zero hpos _) (Nat.le_of_lt hx) (Nat.le_trans hp.low_budget (Nat.le_add_left _ _))
  have hlow := hhigh.next
  cases b with
  | true =>
    have hlevel : waveLevel w (now + p.tBitLow + p.tSample) = true := hhigh.level hone
    have hfall : waitOn p w false (now + p.tBitLow + p.tSample) = some (now + p.tBitLow + p.tBit1) :=
      hhigh.waitOn_next hp.poll (waveLevel_zero hp.low_pos _) (Nat.le_of_lt hone) hp.one_budget
    refine ⟨_, 0, hlow, hp.low_pos, ?_⟩
    simp only [transferBits, hrise, hlevel, hfall, dif_pos hi]
    rfl
  | false =>
    have hsample : now + p.tBitLow + p.tSample = now + p.tBitLow + p.tBit0 + (p.tSample - p.tBit0) := by omega
    have hlevel : waveLevel w (now + p.tBitLow + p.tSample) = false := hsample ▸ hlow.level (by omega)
    have hfall : waitOn p w false (now + p.tBitLow + p.tSample) = some (now + p.tBitLow + p.tSample) :=
      hsample ▸ hlow.waitOn_now (by omega)
    refine ⟨_, p.tSample - p.tBit0, hlow, by omega, ?_⟩
    simp only [transferBits, hrise, hlevel, hfall, dif_pos hi]
    rw [hsample]
    rfl

/-- The loop over the bits `bs` comes to the low phase after them (R139). -/
theorem transferBits_bits {bs : List Bool} {now x i : Nat}
    (hw : WaveFrom w now (bs.flatMap (bitWave p) ++ (false, p.tBitLow) :: rest)) (hx : x < p.tBitLow)
    (hi : i + bs.length ≤ 40) (n : Nat) (f : Vector Byte 5) :
    ∃ now' x' f', WaveFrom w now' ((false, p.tBitLow) :: rest) ∧ x' < p.tBitLow ∧
      transferBits p w (n + bs.length) i (now + x) f = transferBits p w n (i + bs.length) (now' + x') f' := by
  induction bs generalizing now x i f with
  | nil => exact ⟨now, x, f, hw, hx, rfl⟩
  | cons b bs ih =>
    rw [List.length_cons] at hi ⊢
    obtain ⟨rest', hrest⟩ := bitWaves_begin_low p bs rest
    rw [List.flatMap_cons, List.append_assoc, hrest] at hw
    obtain ⟨now1, x1, hw1, hx1, e1⟩ := transferBits_bit hp hw hx (i := i) (by omega) (n + bs.length) f
    obtain ⟨now2, x2, f2, hw2, hx2, e2⟩ := ih (hrest ▸ hw1) hx1 (i := i + 1) (by omega) (storeBit f ⟨i, by omega⟩ b)
    refine ⟨now2, x2, f2, hw2, hx2, ?_⟩
    rw [← Nat.add_assoc, e1, e2, Nat.add_right_comm, Nat.add_assoc i]

/-- A sensor that stops after the low phase of bit `i`: the line is high from then on, and the wait for the end of the
bit times out (R143). -/
theorem transferBits_stopped {now x i : Nat} (hw : WaveFrom w now [(false, p.tBitLow)]) (hx : x < p.tBitLow) (n : Nat)
    (f : Vector Byte 5) : transferBits p w (n + 1) i (now + x) f = .timeoutAt (5 + 2 * i) := by
  have hrise : waitOn p w true (now + x) = some (now + p.tBitLow) :=
    hw.waitOn_next hp.poll rfl (Nat.le_of_lt hx) (Nat.le_trans hp.low_budget (Nat.le_add_left _ _))
  simp only [transferBits, hrise, hw.next.waitOn_idle]

end Bits

/-- The handshake brings the transfer to its first bit (R135, R139). -/
theorem transfer_handshake {p : Params} {lead : Nat} {rest : List (Bool × Nat)} (hpoll : p.tPoll = 1)
    (hlead : lead ≤ p.waitMaxIter) (hpos : 1 ≤ p.tHs) (hbudget : p.tHs ≤ p.waitMaxIter)
    (hrest : waveLevel rest 0 = false) :
    ∃ now, WaveFrom ([(true, lead), (false, p.tHs), (true, p.tHs)] ++ rest) now rest ∧
      transfer p ([(true, lead), (false, p.tHs), (true, p.tHs)] ++ rest) =
        transferBits p ([(true, lead), (false, p.tHs), (true, p.tHs)] ++ rest) 40 0 now (Vector.replicate 5 0) := by
  generalize hwave : [(true, lead), (false, p.tHs), (true, p.tHs)] ++ rest = w
  have h0 : WaveFrom w 0 ((true, lead) :: (false, p.tHs) :: (true, p.tHs) :: rest) := hwave ▸ waveFrom_zero _
  have h1 := h0.next
  have h2 := h1.next
  have e0 : waitOn p w false 0 = some (0 + lead) :=
    h0.waitOn_next (x := 0) hpoll (waveLevel_zero hpos _) (Nat.zero_le _) (by omega)
  have e1 : waitOn p w true (0 + lead) = some (0 + lead + p.tHs) :=
    h1.waitOn_next (x := 0) hpoll (waveLevel_zero hpos _) (Nat.zero_le _) (by omega)
  have e2 : waitOn p w false (0 + lead + p.tHs) = some (0 + lead + p.tHs + p.tHs) :=
    h2.waitOn_next (x := 0) hpoll hrest (Nat.zero_le _) (by omega)
  exact ⟨_, h2.next, by simp only [transfer, e0, e1, e2]⟩

theorem length_flatMap_msbBits (l : List Byte) : (l.flatMap msbBits).length = 8 * l.length := by
  induction l with
  | nil => rfl
  | cons b l ih =>
    have hmsb : (msbBits b).length = 8 := rfl
    rw [List.flatMap_cons, List.length_append, ih, hmsb, List.length_cons]
    omega

/-- A frame has 40 bits (R68). -/
theorem length_frameBits (f : Vector Byte 5) : (f.toList.flatMap msbBits).length = 40 := by
  rw [length_flatMap_msbBits, Vector.length_toList]

/-- The phases of bits, cut after the low phase of bit `i` (R63). -/
theorem take_bitWaves (p : Params) {bs : List Bool} {i : Nat} (hi : i < bs.length) (tail : List (Bool × Nat)) :
    (bs.flatMap (bitWave p) ++ tail).take (2 * i + 1) = (bs.take i).flatMap (bitWave p) ++ [(false, p.tBitLow)] := by
  induction bs generalizing i with
  | nil => cases hi
  | cons b bs ih =>
    cases i with
    | zero => rfl
    | succ i =>
      have hcut := congrArg (bitWave p b ++ ·) (ih (Nat.lt_of_succ_lt_succ hi))
      simpa [bitWave, Nat.mul_succ] using hcut

/-- The waveform of a conforming sensor, cut after the low phase of bit `i` (R63, R143). -/
theorem conformingWave_take (p : Params) (lead : Nat) (f : Vector Byte 5) (i : Fin 40) :
    (conformingWave p lead f).take (4 + 2 * i.val) =
      [(true, lead), (false, p.tHs), (true, p.tHs)] ++
        (((f.toList.flatMap msbBits).take i.val).flatMap (bitWave p) ++ [(false, p.tBitLow)]) := by
  have hi : i.val < (f.toList.flatMap msbBits).length := by rw [length_frameBits]; exact i.isLt
  rw [conformingWave, List.append_assoc, show 4 + 2 * i.val = 3 + (2 * i.val + 1) by omega,
    ← take_bitWaves p hi [(false, p.tBitLow)]]
  exact List.take_length_add_append (l₁ := [(true, lead), (false, p.tHs), (true, p.tHs)]) (2 * i.val + 1)

/-- A conforming sensor that stops after the low phase of bit `i` (R143). -/
theorem transfer_stopped {p : Params} (hp : BitTiming p) {lead : Nat} (hlead : lead ≤ p.waitMaxIter) (hpos : 1 ≤ p.tHs)
    (hbudget : p.tHs ≤ p.waitMaxIter) (f : Vector Byte 5) (i : Fin 40) :
    transfer p ((conformingWave p lead f).take (4 + 2 * i.val)) = .timeoutAt (5 + 2 * i.val) := by
  have hlength : ((f.toList.flatMap msbBits).take i.val).length = i.val := by
    rw [List.length_take, length_frameBits]; omega
  obtain ⟨rest, hrest⟩ := bitWaves_begin_low p ((f.toList.flatMap msbBits).take i.val) []
  obtain ⟨now, hw, e⟩ := transfer_handshake (p := p) (lead := lead)
    (rest := ((f.toList.flatMap msbBits).take i.val).flatMap (bitWave p) ++ [(false, p.tBitLow)])
    hp.poll hlead hpos hbudget (by rw [hrest, waveLevel_zero hp.low_pos])
  obtain ⟨now', x, fr, hw', hx, e'⟩ :=
    transferBits_bits hp hw hp.low_pos (i := 0) (by omega) (39 - i.val + 1) (Vector.replicate 5 0)
  have hcount : 39 - i.val + 1 + i.val = 40 := by omega
  rw [hlength, hcount, Nat.zero_add] at e'
  rw [conformingWave_take, e]
  exact e'.trans (transferBits_stopped hp hw' hx (39 - i.val) fr)

/-- Settles O20: the first wait, the second, or the wait for the end of bit `i` finds its level at no poll. -/
theorem silentAndStuckSensorTimeOut : Obligations.SilentAndStuckSensorTimeOut := by
  refine ⟨fun s hc hl hs => ⟨fun ha => ?silent, fun d hd ha => ?stuck⟩, ?stopped⟩
  case silent =>
    obtain ⟨hend, htime⟩ := runSensor_timesOut rfl rfl (Nat.le_add_right _ s.cfg.tRel)
      (waitOutcome_silent ha (s.time + s.cfg.tWake + s.cfg.tRel)) 123
    exact ⟨_, exec_readSensor_eq hc hl hs, hend, htime.trans (Nat.max_eq_right (Nat.le_add_right _ _))⟩
  case stuck =>
    obtain ⟨hend, -⟩ := runSensor_timesOut rfl rfl (Nat.le_add_right _ s.cfg.tRel)
      (waitOutcome_hs2_stuck hd ha (s.time + s.cfg.tWake + s.cfg.tRel)) 122
    rw [← sensorTick_hs1_stuck hd ha, ← runSensor_succ SSeq.noConfusion] at hend
    exact ⟨_, exec_readSensor_eq hc hl hs, hend⟩
  case stopped =>
    intro p lead f i hpoll hlead hpos hbudget hlow hlowB hzero hover hnext hone honeB
    exact transfer_stopped ⟨hpoll, hlow, hlowB, hzero, hover, hnext, hone, honeB⟩ hlead hpos hbudget f i

end Sys2Proof.Machine

/-! ## READ_CLOCK and WRITE_CLOCK to their end, and their result codes (O31, O34, O39) -/

namespace Sys2Proof.Machine

/-! ### A window, run micro-step by micro-step -/

/-- Before a command byte its window opens (R161, R165, R166). -/
theorem runRtc_rest {s : State} (hh : rtcHolds s.rtc.seq = true) (hp : s.rtc.phase = .rest) (n : Nat) :
    runRtc (n + 2) s = runRtc n (phaseTo (.command .load) (openWindow s)) := by
  have hidle : s.rtc.seq ≠ .idle := fun h => by simp [h, rtcHolds] at hh
  have hlead : rtcTick (phaseTo .lead (setRce true s)) = phaseTo (.command .load) (openWindow s) := rtcTick_lead hh rfl
  rw [runRtc_succ hidle, rtcTick_rest hh hp, runRtc_succ (by exact hidle), hlead]

/-- After a last data byte its window closes (R161, R165, R166). -/
theorem runRtc_trail {s : State} (hh : rtcHolds s.rtc.seq = true) (n : Nat) :
    runRtc (n + 2) (phaseTo .trail s) = runRtc n (closeTick (phaseTo .close (delay s.cfg.tHalfbit s))) := by
  have hidle : s.rtc.seq ≠ .idle := fun h => by simp [h, rtcHolds] at hh
  have htrail : rtcTick (phaseTo .trail s) = phaseTo .close (delay s.cfg.tHalfbit s) := rtcTick_trail hh rfl
  have hclose : rtcTick (phaseTo .close (delay s.cfg.tHalfbit s)) =
      closeTick (phaseTo .close (delay s.cfg.tHalfbit s)) := rtcTick_close hh rfl
  rw [runRtc_succ (by exact hidle), htrail, runRtc_succ (by exact hidle), hclose]

/-- A byte sent does not read which micro-step is next. -/
theorem writeByte_phaseTo (turn : Bool) (b : Byte) (ph : CPhase) (s : State) :
    writeByte turn b (phaseTo ph s) = phaseTo ph (writeByte turn b s) := by
  rw [writeByte_eq, writeByte_eq]
  rfl

theorem writeByte_seq (turn : Bool) (b : Byte) (s : State) : (writeByte turn b s).rtc.seq = s.rtc.seq := by
  rw [writeByte_eq]

/-! ### A quiet bus -/

section Quiet

variable {s : State} (hq : Quiet s)
include hq

/-- The pins of the RTC bus as an operation leaves them are those it began with (R42, R43, R296). -/
theorem Quiet.pins_eq : { s.pins with rce := false, rclk := false, rio := .input } = s.pins := by
  calc { s.pins with rce := false, rclk := false, rio := .input }
    _ = { s.pins with rce := s.pins.rce, rclk := s.pins.rclk, rio := s.pins.rio } := by
      rw [hq.rce_low, hq.rclk_low, hq.rio_input]
    _ = s.pins := rfl

theorem Quiet.ctl_eq : { s.ctl with lock := .free } = s.ctl := by
  rw [← hq.lock_free]

theorem Quiet.rtcFree : rtcFree s = true := by
  simp [Machine.rtcFree, hq.rtc_idle]

theorem Quiet.rtcReady : rtcReady s = true := by
  simp [Machine.rtcReady, hq.lock_free, hq.rtcFree]

theorem Quiet.displace_eq : displace s = s := by
  obtain ⟨h, -⟩ | ⟨-, h⟩ := displace_cases s
  · exact absurd (hq.rtc_idle.symm.trans h) CSeq.noConfusion
  · exact h

end Quiet

/-! ### WRITE_CLOCK: nine pairs, one after the other (O34) -/

/-- A pair (R165), as one write of the state. -/
theorem pairClose_pairOpen (cmd v : Byte) (s : State) :
    pairClose cmd v (pairOpen cmd s) =
      { s with
        rtc.shift := v
        rtc.bitcnt := 8
        pins := { s.pins with rce := false, rclk := false, rio := .input }
        time := s.time + 34 * s.cfg.tHalfbit
        trace.history := s.trace.history ++ [.memWrite cmd v]
        trace.rioLog := s.trace.rioLog ++ lsbBits cmd ++ lsbBits v } := by
  have ht : s.time + s.cfg.tHalfbit + 16 * s.cfg.tHalfbit + 16 * s.cfg.tHalfbit + s.cfg.tHalfbit =
      s.time + 34 * s.cfg.tHalfbit := by omega
  rw [pairClose_eq, pairOpen, writeByte_eq, ← ht]
  rfl

theorem pairClose_pairOpen_cfg (cmd v : Byte) (s : State) : (pairClose cmd v (pairOpen cmd s)).cfg = s.cfg := by
  rw [pairClose_pairOpen]

theorem pairClose_pairOpen_wbuf (cmd v : Byte) (s : State) :
    (pairClose cmd v (pairOpen cmd s)).rtc.wbuf = s.rtc.wbuf := by
  rw [pairClose_pairOpen]

/-- The end of a pair's window, and what follows: the next pair, or the end of WRITE_CLOCK (R165, R180). -/
theorem runRtc_trail_pair {s : State} {p : Fin 9} (hs : s.rtc.seq = .wPair p) (n : Nat) :
    let t := recordEvent (.memWrite (pairCommand s.cfg p) (pairData s.cfg s.rtc.wbuf p))
      (driveRio .input (closeWindow s))
    (∀ h : p.val + 1 < 9, runRtc (n + 3) (phaseTo .trail s) = runRtc n (rtcTo (.wPair ⟨p.val + 1, h⟩) .rest t)) ∧
    (p.val = 8 → runRtc (n + 3) (phaseTo .trail s) = runRtc n (phaseTo .finish t)) := by
  intro t
  let u := phaseTo .settle
    (recordEvent (.memWrite (pairCommand s.cfg p) (pairData s.cfg s.rtc.wbuf p)) (closeWindow s))
  have hclose : closeTick (phaseTo .close (delay s.cfg.tHalfbit s)) = u := closeTick_pair hs
  have hu : u.rtc.seq = .wPair p := hs
  have hidle : u.rtc.seq ≠ .idle := by rw [hu]; exact CSeq.noConfusion
  rw [runRtc_trail (rtcHolds_pair hs), hclose, runRtc_succ hidle, rtcTick_settle (rtcHolds_pair hu) rfl]
  exact ⟨fun h => congrArg (runRtc n) (settleTick_next hu h), fun h => congrArg (runRtc n) (settleTick_last hu h)⟩

/-- A pair of the sequencer in its micro-steps: it is RTC_PAIR, and the next pair follows, or the end (R165, R180). -/
theorem runRtc_pair {s : State} {p : Fin 9} (hs : s.rtc.seq = .wPair p) (hp : s.rtc.phase = .rest) (n : Nat) :
    let cmd := pairCommand s.cfg p
    let t := pairClose cmd (pairData s.cfg s.rtc.wbuf p) (pairOpen cmd s)
    (∀ h : p.val + 1 < 9, runRtc (87 + n) s = runRtc n (rtcTo (.wPair ⟨p.val + 1, h⟩) .rest t)) ∧
    (p.val = 8 → runRtc (87 + n) s = runRtc n (phaseTo .finish t)) := by
  intro cmd t
  have hopen : (pairOpen cmd s).rtc.seq = .wPair p := (writeByte_seq _ _ _).trans hs
  have hdata : (writeByte false (pairData s.cfg s.rtc.wbuf p) (pairOpen cmd s)).rtc.seq = .wPair p :=
    (writeByte_seq _ _ _).trans hopen
  have hcfg : (pairOpen cmd s).cfg = s.cfg := writeByte_cfg _ _ _
  have hwbuf : (pairOpen cmd s).rtc.wbuf = s.rtc.wbuf := writeByte_wbuf _ _ _
  have hbytes :=
    calc runRtc (87 + n) s
      _ = runRtc (85 + n + 2) s := by rw [Nat.add_right_comm]
      _ = runRtc (41 + (44 + n)) (phaseTo (.command .load) (openWindow s)) := by
        rw [runRtc_rest (rtcHolds_pair hs) hp, ← Nat.add_assoc]
      _ = runRtc (44 + n) (phaseTo (.data .load) (pairOpen cmd s)) := by
        rw [(rtc_pairCommand (s := phaseTo (.command .load) (openWindow s)) hs rfl (44 + n)).1, writeByte_phaseTo]
        rfl
      _ = runRtc (41 + (n + 3)) (phaseTo (.data .load) (pairOpen cmd s)) := by
        rw [show 41 + (n + 3) = 44 + n by omega]
      _ = runRtc (n + 3) (phaseTo .trail (writeByte false (pairData s.cfg s.rtc.wbuf p) (pairOpen cmd s))) := by
        rw [(rtc_pairData (s := phaseTo (.data .load) (pairOpen cmd s)) hopen rfl (n + 3)).1, writeByte_phaseTo,
          phaseTo_cfg, phaseTo_rtc, hcfg, hwbuf]
        rfl
  have h := runRtc_trail_pair hdata n
  simp only [writeByte_cfg, writeByte_wbuf, hcfg, hwbuf] at h
  rw [hbytes]
  exact h

/-- The pairs of WRITE_CLOCK from pair `p` on: command and data (R180). -/
def pairsFrom (c : Params) (v : ClockValue) (p : Nat) : List (Byte × Byte) :=
  ((List.finRange 9).drop p).map fun q => (pairCommand c q, pairData c v q)

theorem pairsFrom_cons (c : Params) (v : ClockValue) (p : Fin 9) :
    pairsFrom c v p.val = (pairCommand c p, pairData c v p) :: pairsFrom c v (p.val + 1) := by
  rw [pairsFrom, List.drop_eq_getElem_cons (by simp), List.getElem_finRange]
  rfl

/-- The state after `ps`, a pair or more whose last data byte is `last`, each in a window of its own (R165, R180). -/
def afterPairs (ps : List (Byte × Byte)) (last : Byte) (s : State) : State :=
  { s with
    rtc := { s.rtc with seq := .wPair 8, phase := .finish, shift := last, bitcnt := 8 }
    pins := { s.pins with rce := false, rclk := false, rio := .input }
    time := s.time + 34 * ps.length * s.cfg.tHalfbit
    trace.history := s.trace.history ++ ps.map (fun q => .memWrite q.1 q.2)
    trace.rioLog := s.trace.rioLog ++ ps.flatMap (fun q => lsbBits q.1 ++ lsbBits q.2) }

theorem afterPairs_one (cmd v : Byte) {s : State} (hs : s.rtc.seq = .wPair 8) :
    phaseTo .finish (pairClose cmd v (pairOpen cmd s)) = afterPairs [(cmd, v)] v s := by
  rw [pairClose_pairOpen, afterPairs, ← hs]
  simp [phaseTo]

theorem afterPairs_cons (cmd v last : Byte) (ps : List (Byte × Byte)) (q : CSeq) (s : State) :
    afterPairs ps last (rtcTo q .rest (pairClose cmd v (pairOpen cmd s))) = afterPairs ((cmd, v) :: ps) last s := by
  have ht : s.time + 34 * s.cfg.tHalfbit + 34 * ps.length * s.cfg.tHalfbit =
      s.time + 34 * (ps.length + 1) * s.cfg.tHalfbit := by
    rw [Nat.mul_succ, Nat.add_mul]
    omega
  rw [pairClose_pairOpen]
  simp [afterPairs, rtcTo, ht]

/-- The pairs from `p` to the last, `k` more than one of them, in their micro-steps (R180). -/
theorem runRtc_pairs (n k : Nat) (p : Fin 9) (s : State) (hk : p.val + k = 8) (hs : s.rtc.seq = .wPair p)
    (hp : s.rtc.phase = .rest) :
    runRtc (87 * (k + 1) + n) s = runRtc n (afterPairs (pairsFrom s.cfg s.rtc.wbuf p.val) s.cfg.wpOn s) := by
  induction k generalizing p s with
  | zero =>
    obtain rfl : p = 8 := Fin.ext hk
    rw [(runRtc_pair hs hp n).2 rfl, afterPairs_one _ _ hs]
    rfl
  | succ k ih =>
    have hlt : p.val + 1 < 9 := by omega
    rw [show 87 * (k + 1 + 1) + n = 87 + (87 * (k + 1) + n) by omega, (runRtc_pair hs hp _).1 hlt,
      ih ⟨p.val + 1, hlt⟩ _ (by simp only; omega) rfl rfl, rtcTo_cfg, rtcTo_rtc, pairClose_pairOpen_cfg,
      pairClose_pairOpen_wbuf, pairsFrom_cons _ _ p, ← afterPairs_cons _ _ _ _ (.wPair ⟨p.val + 1, hlt⟩)]

theorem rtcTick_wCheck {s : State} (hs : s.rtc.seq = .wCheck) (hl : s.ctl.lock = .free) :
    rtcTick s = rtcTo (.wPair 0) .rest (acquire .rtc s) := by
  simp only [rtcTick, hs, hl, if_true]

/-- After the ninth pair: OK, and the lock is freed (R180, R183). -/
theorem finishWrite_eq {s : State} (hl : s.ctl.lock = .held .rtc) :
    finishWrite s = { s with rtc := { s.rtc with seq := .idle, phase := .rest, cerr := .ok }, ctl.lock := .free } := by
  rw [finishWrite, releaseLock]
  exact if_pos hl

/-- WRITE_CLOCK from its operand check with the lock free: the lock, the nine pairs, OK, the lock (R180, R182, R183). -/
theorem runRtc_write {s : State} (hs : s.rtc.seq = .wCheck) (hl : s.ctl.lock = .free) :
    let pairs := pairsFrom s.cfg s.rtc.wbuf 0
    runRtc writeTicks s =
      { s with
        rtc := { s.rtc with seq := .idle, phase := .rest, shift := s.cfg.wpOn, bitcnt := 8, cerr := .ok }
        ctl := { s.ctl with lock := .free }
        pins := { s.pins with rce := false, rclk := false, rio := .input }
        time := s.time + 306 * s.cfg.tHalfbit
        trace.history := s.trace.history ++ pairs.map (fun q => .memWrite q.1 q.2)
        trace.rioLog := s.trace.rioLog ++ pairs.flatMap (fun q => lsbBits q.1 ++ lsbBits q.2) } := by
  intro pairs
  have hidle : s.rtc.seq ≠ .idle := by rw [hs]; exact CSeq.noConfusion
  let u := afterPairs pairs s.cfg.wpOn (rtcTo (.wPair 0) .rest (acquire .rtc s))
  have hpairs : runRtc writeTicks s = runRtc 1 u := by
    rw [writeTicks, runRtc_succ hidle, rtcTick_wCheck hs hl]
    exact runRtc_pairs 1 8 0 _ rfl rfl rfl
  have hfinish : rtcTick u = finishWrite u := (rtcTick_finish rfl rfl).trans (finishTick_pair (p := 8) rfl)
  rw [hpairs, runRtc_succ (by exact CSeq.noConfusion), hfinish, finishWrite_eq rfl]
  rfl

/-- Settles O34: from a quiet bus the operand check passes, and the nine pairs follow. -/
theorem writeClockSendsNinePairs : Obligations.WriteClockSendsNinePairs := by
  intro s v hq hv pairs
  let u : State := { s with rtc.wbuf := v, rtc.seq := .wCheck }
  have hstart : startWrite v s = u := by
    rw [startWrite, hq.displace_eq]
    exact if_pos hv
  have hrun : runRtc writeTicks u = _ := runRtc_write rfl hq.lock_free
  have hpins : { u.pins with rce := false, rclk := false, rio := .input } = s.pins := hq.pins_eq
  have hctl : { u.ctl with lock := .free } = s.ctl := hq.ctl_eq
  rw [exec, execWriteClock, busStep_task hq.task, if_pos hq.rtcFree, hstart, hrun, hpins, hctl]
  rfl

/-! ### The decode (O31, O39) -/

theorem rtcTick_decode {s : State} (hs : s.rtc.seq = .rDecode) : rtcTick s = decodeClock s := by
  simp only [rtcTick, hs]

theorem decodeClock_some {s : State} {v : ClockValue} (h : clockDec s.cfg s.rtc.cbuf = some v) :
    decodeClock s = { s with rtc := { s.rtc with seq := .idle, clock := v, valid := true, cerr := .ok } } := by
  simp only [decodeClock, h]

theorem decodeClock_none {s : State} (h : clockDec s.cfg s.rtc.cbuf = none) : decodeClock s = raiseReadClock s := by
  simp only [decodeClock, h]

theorem clockDec_no_hour {c : Params} {d : Vector Byte 8} (h : hourDec c.hour12 (d[2] &&& c.mask[2]) = none) :
    clockDec c d = none := by
  have hb : hourDec c.hour12 (maskedByte c d 2) = none := h
  simp only [clockDec, hb]

/-- The range checks, and the seven fields of the masked bytes (R103, R170, R172). -/
theorem clockDec_hour {c : Params} {d : Vector Byte 8} {h : Nat}
    (hh : hourDec c.hour12 (d[2] &&& c.mask[2]) = some h) :
    clockDec c d =
      if bcdDec (d[0] &&& c.mask[0]) > 59 ∨ bcdDec (d[1] &&& c.mask[1]) > 59 ∨ h > 23 then none
      else some
        { second := bcdDec (d[0] &&& c.mask[0])
          minute := bcdDec (d[1] &&& c.mask[1])
          hour := h
          day := bcdDec (d[3] &&& c.mask[3])
          month := bcdDec (d[4] &&& c.mask[4])
          weekday := bcdDec (d[5] &&& c.mask[5])
          year := bcdDec (d[6] &&& c.mask[6]) } := by
  have hb : hourDec c.hour12 (maskedByte c d 2) = some h := hh
  simp only [clockDec, hb, Bool.or_eq_true, decide_eq_true_eq, or_assoc]
  rfl

/-- All that the decode writes, whatever it decodes (R170, R174). -/
theorem decodeClock_writes (s : State) : ∃ c ok e n,
    decodeClock s =
      { s with rtc := { s.rtc with seq := .idle, clock := c, valid := ok, cerr := e }, aux.freeCtr := n } := by
  obtain ⟨v, -, h⟩ | ⟨-, h⟩ := decodeClock_cases s
  · exact ⟨_, _, _, _, h⟩
  · exact ⟨_, _, _, _, h⟩

/-! ### READ_CLOCK: one burst and its decode (O31) -/

/-- The state after a byte `v` came in (R164). -/
def byteTaken (v : Byte) (s : State) : State :=
  { s with
    rtc.shift := v
    rtc.bitcnt := 8
    pins.rclk := false
    time := s.time + 16 * s.cfg.tHalfbit
    env.rioIn := s.env.rioIn.drop 8
    aux.freeCtr := s.aux.freeCtr + 8
    trace.rioLog := s.trace.rioLog ++ lsbBits v }

/-- A byte in, the one the device presents where it presents one (R66, R164). -/
theorem readByte_taken {s : State} (hr : s.pins.rio = .input) : ∃ v : Byte,
    readByte s = byteTaken v s ∧ ∀ (b : Byte) (rest : List Bool), s.env.rioIn = lsbBits b ++ rest → v = b := by
  obtain ⟨v, e, -⟩ := readByte_eq s
  exact ⟨v, e, fun b rest he => congrArg (·.rtc.shift) (e.symm.trans (readByte_presented hr he))⟩

/-- The state after the last bytes of a burst, `bs`, came in, with `d` in CBUF (R164, R166). -/
def afterBytes (bs : List Byte) (d : Vector Byte 8) (s : State) : State :=
  { s with
    rtc := { s.rtc with seq := .rData 7, phase := .trail, cbuf := d, shift := d[7], bitcnt := 8 }
    pins.rclk := false
    time := s.time + 16 * bs.length * s.cfg.tHalfbit
    env.rioIn := s.env.rioIn.drop (8 * bs.length)
    aux.freeCtr := s.aux.freeCtr + 8 * bs.length
    trace.rioLog := s.trace.rioLog ++ bs.flatMap lsbBits }

theorem afterBytes_last (v : Byte) {s : State} (hs : s.rtc.seq = .rData 7) :
    phaseTo .trail (storeByte 7 (byteTaken v s)) = afterBytes [v] (s.rtc.cbuf.set 7 v) s := by
  rw [afterBytes, Vector.getElem_set_self, ← hs]
  rfl

theorem afterBytes_cons (v : Byte) (bs : List Byte) (d : Vector Byte 8) (q : CSeq) (ph : CPhase) (j : Fin 8)
    (s : State) :
    afterBytes bs d (rtcTo q ph (storeByte j (byteTaken v s))) = afterBytes (v :: bs) d s := by
  have ht : s.time + 16 * s.cfg.tHalfbit + 16 * bs.length * s.cfg.tHalfbit =
      s.time + 16 * (bs.length + 1) * s.cfg.tHalfbit := by
    rw [Nat.mul_succ, Nat.add_mul]
    omega
  have hn : 8 + 8 * bs.length = 8 * (bs.length + 1) := by omega
  simp [afterBytes, byteTaken, storeByte, rtcTo, ht, hn, Nat.add_assoc]

theorem toList_drop_eq_cons (d : Vector Byte 8) (j : Fin 8) :
    d.toList.drop j.val = d[j] :: d.toList.drop (j.val + 1) := by
  rw [List.drop_eq_getElem_cons (by simp), Vector.getElem_toList]
  rfl

/-- The bytes of a burst from byte `j` on, `k` more than one of them, in their micro-steps: those before keep their place
in CBUF, and where the device presents as many bytes, they are these (R66, R166). -/
theorem runRtc_burstBytes (n k : Nat) (j : Fin 8) (s : State) (hk : j.val + k = 7) (hs : s.rtc.seq = .rData j)
    (hp : s.rtc.phase = .data .load) (hr : s.pins.rio = .input) : ∃ d : Vector Byte 8,
    runRtc (41 * (k + 1) + n) s = runRtc n (afterBytes (d.toList.drop j.val) d s) ∧
    (∀ i : Fin 8, i < j → d[i] = s.rtc.cbuf[i]) ∧
    ∀ (bs : List Byte) (rest : List Bool), bs.length = k + 1 → s.env.rioIn = bs.flatMap lsbBits ++ rest →
      d.toList.drop j.val = bs := by
  induction k generalizing j s with
  | zero =>
    obtain ⟨v, hread, hv⟩ := readByte_taken hr
    obtain rfl : j = 7 := Fin.ext hk
    have hrun := ((rtc_burstByte hs hp n).2 (by decide)).1
    have hdrop : (s.rtc.cbuf.set 7 v).toList.drop (7 : Fin 8).val = [v] := by
      rw [toList_drop_eq_cons, List.drop_of_length_le (Nat.le_of_eq Vector.length_toList)]
      exact congrArg (fun b => [b]) (Vector.getElem_set_self _)
    rw [hread, afterBytes_last v hs] at hrun
    refine ⟨s.rtc.cbuf.set 7 v, ?_, fun i hi => ?_, fun bs rest hlen he => ?_⟩
    · rw [hdrop]
      exact hrun
    · exact Vector.getElem_set_ne _ _ (by omega)
    · obtain ⟨b, rfl⟩ := List.length_eq_one_iff.mp hlen
      rw [hdrop, hv b rest (by simpa using he)]
  | succ k ih =>
    obtain ⟨v, hread, hv⟩ := readByte_taken hr
    have hlt : j.val + 1 < 8 := by omega
    have hrun := ((rtc_burstByte hs hp (41 * (k + 1) + n)).1 hlt).1
    rw [hread] at hrun
    obtain ⟨d, hd, hkeep, hpresent⟩ :=
      ih ⟨j.val + 1, hlt⟩ (rtcTo (.rData ⟨j.val + 1, hlt⟩) (.data .load) (storeByte j (byteTaken v s)))
        (by simp only; omega) rfl rfl hr
    have hj : d[j] = v := (hkeep j (Nat.lt_succ_self _)).trans (Vector.getElem_set_self _)
    have hdrop : d.toList.drop j.val = v :: d.toList.drop (j.val + 1) := by rw [toList_drop_eq_cons, hj]
    refine ⟨d, ?_, fun i hi => ?_, fun bs rest hlen he => ?_⟩
    · rw [show 41 * (k + 1 + 1) + n = 41 + (41 * (k + 1) + n) by omega, hrun, hd, afterBytes_cons, hdrop]
    · exact (hkeep i (Nat.lt_succ_of_lt hi)).trans (Vector.getElem_set_ne j.isLt i.isLt (by omega))
    · obtain ⟨b, bs, rfl⟩ := List.exists_cons_of_length_eq_add_one hlen
      rw [List.flatMap_cons, List.append_assoc] at he
      rw [hdrop, hv b _ he, hpresent bs rest (Nat.succ.inj hlen) (congrArg (List.drop 8) he)]

/-- The state where the first byte of a burst read is due: the window is open, the command sent, RIO released (R166,
R167). -/
def afterReadCommand (s : State) : State :=
  { s with
    rtc := { s.rtc with seq := .rData 0, phase := .data .load, shift := s.cfg.cmdBurstRead, bitcnt := 8 }
    pins := { s.pins with rce := true, rclk := false, rio := .input }
    time := s.time + 17 * s.cfg.tHalfbit
    trace.rioLog := s.trace.rioLog ++ lsbBits s.cfg.cmdBurstRead }

/-- The state at `R_DECODE`, the lock freed: one burst of the bytes `d`, the window closed, the transaction in the history
(R166, R170, R174). -/
def atDecode (d : Vector Byte 8) (s : State) : State :=
  { s with
    rtc := { s.rtc with seq := .rDecode, phase := .rest, cbuf := d, shift := d[7], bitcnt := 8 }
    ctl := { s.ctl with lock := .free }
    pins := { s.pins with rce := false, rclk := false, rio := .input }
    time := s.time + 146 * s.cfg.tHalfbit
    env.rioIn := s.env.rioIn.drop 64
    aux.freeCtr := s.aux.freeCtr + 64
    trace.history := s.trace.history ++ [.memRead s.cfg.cmdBurstRead d]
    trace.rioLog := s.trace.rioLog ++ lsbBits s.cfg.cmdBurstRead ++ d.toList.flatMap lsbBits }

/-- The end of a burst read: the window closes and the lock is freed (R166, R170, R174). -/
theorem runRtc_trail_read {s : State} {j : Fin 8} (hs : s.rtc.seq = .rData j) (n : Nat) :
    runRtc (n + 3) (phaseTo .trail s) =
      runRtc n (rtcTo .rDecode .rest
        (releaseLock .rtc (recordEvent (.memRead s.cfg.cmdBurstRead s.rtc.cbuf) (closeWindow s)))) := by
  let u := phaseTo .finish (recordEvent (.memRead s.cfg.cmdBurstRead s.rtc.cbuf) (closeWindow s))
  have hclose : closeTick (phaseTo .close (delay s.cfg.tHalfbit s)) = u := closeTick_read (j := j) (by exact hs)
  have hu : u.rtc.seq = .rData j := hs
  have hidle : u.rtc.seq ≠ .idle := by rw [hu]; exact CSeq.noConfusion
  rw [runRtc_trail (rtcHolds_readData hs), hclose, runRtc_succ hidle, rtcTick_finish (rtcHolds_readData hu) rfl,
    finishTick_read hu, releaseLock_eq, releaseLock_eq]
  rfl

/-- The command of a burst read in its micro-steps, from the opening of its window to the first byte (R166, R167). -/
theorem runRtc_readCommand {s : State} (hs : s.rtc.seq = .rCmd) (hp : s.rtc.phase = .rest) (n : Nat) :
    runRtc (44 + n) s = runRtc n (afterReadCommand s) := by
  rw [Nat.add_comm, show n + 44 = 42 + n + 2 by omega, runRtc_rest (rtcHolds_readCommand hs) hp,
    (rtc_burstCommand (s := phaseTo (.command .load) (openWindow s)) hs rfl n).1, writeByte_openWindow]
  rfl

/-- The eight bytes after the command, the end of the window and the release of the lock: READ_CLOCK is at its decode
(R166, R170). -/
theorem burst_eq_atDecode (d : Vector Byte 8) {s : State} (hl : s.ctl.lock = .held .rtc) :
    let t := closeWindow (afterBytes d.toList d (afterReadCommand s))
    rtcTo .rDecode .rest (releaseLock .rtc (recordEvent (.memRead s.cfg.cmdBurstRead d) t)) = atDecode d s := by
  have ht : s.time + 17 * s.cfg.tHalfbit + 16 * 8 * s.cfg.tHalfbit + s.cfg.tHalfbit =
      s.time + 146 * s.cfg.tHalfbit := by omega
  simp [releaseLock_eq, afterBytes, afterReadCommand, closeWindow, atDecode, rtcTo, recordEvent, setRce, delay, hl, ht]

/-- READ_CLOCK from its beginning to its decode, which ends it: where the device presents eight bytes, they are decoded
(R66, R166, R170). -/
theorem runRtc_read {s : State} (hs : s.rtc.seq = .rCmd) (hp : s.rtc.phase = .rest) (hl : s.ctl.lock = .held .rtc) :
    ∃ d : Vector Byte 8, runRtc readTicks s = decodeClock (atDecode d s) ∧
      ∀ (bytes : Vector Byte 8) (rest : List Bool), s.env.rioIn = bytes.toList.flatMap lsbBits ++ rest → d = bytes := by
  obtain ⟨d, hbytes, -, hpresent⟩ := runRtc_burstBytes 4 7 0 (afterReadCommand s) rfl rfl rfl rfl
  have hclose : runRtc 4 (afterBytes d.toList d (afterReadCommand s)) = runRtc 1 (atDecode d s) := by
    rw [← burst_eq_atDecode d hl]
    exact runRtc_trail_read (s := afterBytes d.toList d (afterReadCommand s)) (j := 7) rfl 1
  refine ⟨d, ?_, fun bytes rest he => Vector.toList_inj.mp (hpresent bytes.toList rest (by simp) he)⟩
  rw [readTicks, runRtc_readCommand hs hp 332]
  refine hbytes.trans (hclose.trans ?_)
  rw [runRtc_succ (by exact CSeq.noConfusion), rtcTick_decode rfl]
  rfl

theorem length_flatMap_lsbBits (l : List Byte) : (l.flatMap lsbBits).length = 8 * l.length := by
  induction l with
  | nil => rfl
  | cons b l ih =>
    have hb : (lsbBits b).length = 8 := rfl
    rw [List.flatMap_cons, List.length_append, ih, hb, List.length_cons, Nat.mul_succ, Nat.add_comm]

/-- READ_CLOCK from a quiet bus, up to its decode (R170). -/
theorem exec_readClock_quiet {s : State} (hq : Quiet s) : ∃ d : Vector Byte 8,
    exec .readClock s = .next (decodeClock (atDecode d s)) ∧
      ∀ (bytes : Vector Byte 8) (rest : List Bool), s.env.rioIn = bytes.toList.flatMap lsbBits ++ rest → d = bytes := by
  obtain ⟨d, hrun, hpresent⟩ := runRtc_read (s := startRead s) rfl rfl rfl
  refine ⟨d, ?_, ?_⟩
  · rw [exec, execReadClock, busStep_task hq.task, if_pos hq.rtcReady, hrun, startRead, hq.displace_eq]
    rfl
  · rwa [startRead, hq.displace_eq] at hpresent

/-- Settles O31: one burst from the quiet bus, and its decode. -/
theorem readClockDecodesTheBurst : Obligations.ReadClockDecodesTheBurst := by
  intro s hq
  obtain ⟨d, hexec, hpresent⟩ := exec_readClock_quiet hq
  obtain ⟨c, ok, e, n, hw⟩ := decodeClock_writes (atDecode d s)
  refine ⟨decodeClock (atDecode d s), d, hexec, fun bytes rest he => ⟨hpresent bytes rest he, ?env⟩, ?_, ?_, ?seq, ?_,
    ?ctl, ?pins, ?_, ?_, ?_, ?_, ?result⟩
  case env =>
    have hdrop : s.env.rioIn.drop 64 = rest := by
      rw [he, List.drop_left' (by rw [length_flatMap_lsbBits, Vector.length_toList])]
    rw [hw, ← hdrop]
    rfl
  case seq => rw [hw]
  case ctl => rw [hw]; exact hq.ctl_eq
  case pins => rw [hw]; exact hq.pins_eq
  case result =>
    intro seconds minutes
    cases hh : hourDec s.cfg.hour12 (d[2] &&& s.cfg.mask[2]) with
    | none =>
      rw [decodeClock_none (s := atDecode d s) (clockDec_no_hour hh)]
      exact ⟨rfl, rfl⟩
    | some h =>
      have hdec := clockDec_hour hh
      simp only
      split
      next hout =>
        rw [decodeClock_none (s := atDecode d s) (hdec.trans (if_pos hout))]
        exact ⟨rfl, rfl⟩
      next hin =>
        rw [decodeClock_some (s := atDecode d s) (hdec.trans (if_neg hin))]
        exact ⟨rfl, rfl, rfl⟩
  all_goals rw [hw]; rfl

/-! ### The result codes of the clock operations (O39) -/

section Task

variable {s : State} (hc : s.ctl.ctx = .task)
include hc

/-- ERR_OK where the sensor engine is at no end: the micro-step that ends the clock operation well (R291, log 11). -/
theorem exec_errOK_clock (hend : clockEndsWell s = true) (hsensor : s.sensor.seq ≠ .check) :
    exec .errOK s = .next (rtcTick s) := by
  rw [exec, execErrOK, busStep_task hc, if_neg (fun h => hsensor h.1), inPlace, if_pos hend]

theorem exec_errRangeError_decode (hs : s.rtc.seq = .rDecode) (hd : clockDec s.cfg s.rtc.cbuf = none) :
    exec .errRangeError s = .next (raiseReadClock s) := by
  rw [exec, execErrRangeError, busStep_task hc, hs]
  simp only [inPlace, hd, Option.isNone_none, if_true, rtcTick_decode hs, decodeClock_none hd]

theorem exec_errRangeError_operand (hs : s.rtc.seq = .wCheck) (hr : inRange s.rtc.wbuf = false) :
    exec .errRangeError s = .next (raiseWriteClock s) := by
  rw [exec, execErrRangeError, busStep_task hc, hs]
  simp only [inPlace, hr, Bool.not_false, if_true]

end Task

/-- Settles O39: each code takes the micro-step of its place, which ends the operation. -/
theorem clockResultCodesEndTheOperation : Obligations.ClockResultCodesEndTheOperation := by
  intro s hc
  refine ⟨fun hs hsensor => ?decode, fun hs hp hl hsensor => ?ninthPair, fun hs hr => ?operand⟩
  case decode =>
    cases hd : clockDec s.cfg s.rtc.cbuf with
    | some v =>
      have hend : clockEndsWell s = true := by simp only [clockEndsWell, hs, hd, Option.isSome_some]
      exact (exec_errOK_clock hc hend hsensor).trans (by rw [rtcTick_decode hs, decodeClock_some hd])
    | none => exact ⟨raiseReadClock s, exec_errRangeError_decode hc hs hd, rfl, rfl, rfl, rfl⟩
  case ninthPair =>
    have hend : clockEndsWell s = true := by
      rw [clockEndsWell, hs, hp]
      rfl
    rw [exec_errOK_clock hc hend hsensor, rtcTick_finish (rtcHolds_pair hs) hp, finishTick_pair hs, finishWrite_eq hl]
  case operand => exact exec_errRangeError_operand hc hs hr

end Sys2Proof.Machine

/-! ## The quadrature decoder: edges, enabling and full detents (O43, O45, O47, O48, O49) -/

namespace Sys2Proof.Machine

/-! ### What an edge does to the decoder -/

/-- The raw state as the number of R108. -/
theorem rawState_eq_ofNat (a b : Bool) : rawState a b = BitVec.ofNat 2 (2 * a.toNat + b.toNat) := by
  revert a b
  decide

theorem exec_encEdge (a b : Bool) (s : State) : exec (.encEdge a b) s = .next (encoderEdge a b s) := rfl

/-- What an accepted interrupt writes whatever its transition: TIME and the raw state (R204, R205). -/
def recordEdge (new : RawState) (s : State) : State := { s with quad.last := some s.time, quad.prev := new }

/-- An invalid transition is recorded only (R205). -/
theorem acceptEdge_invalid {new : RawState} {s : State} (hd : transitionStep s.cfg.dirSwap s.quad.prev new = 0) :
    acceptEdge new s = recordEdge new s :=
  if_pos hd

/-- A valid one is recorded, then counted (R205, R206). -/
theorem acceptEdge_valid {new : RawState} {s : State} (hd : transitionStep s.cfg.dirSwap s.quad.prev new ≠ 0) :
    acceptEdge new s = accumulate (transitionStep s.cfg.dirSwap s.quad.prev new) (recordEdge new s) :=
  if_neg hd

/-- Counting writes no register of the decoder but the count. -/
theorem accumulate_quad (d : Int) (s : State) : ∃ v, (accumulate d s).quad = { s.quad with acc := v } := by
  obtain ⟨_, h⟩ | ⟨_, _, h⟩ | ⟨_, _, h⟩ := accumulate_cases d s <;> rw [h]
  · exact ⟨0, rfl⟩
  · exact ⟨0, rfl⟩
  · exact ⟨s.quad.acc + d, rfl⟩

/-- The decoder after an accepted interrupt (R204, R205). -/
theorem acceptEdge_quad (new : RawState) (s : State) :
    ∃ v, (acceptEdge new s).quad = { s.quad with last := some s.time, prev := new, acc := v } := by
  by_cases hd : transitionStep s.cfg.dirSwap s.quad.prev new = 0
  · rw [acceptEdge_invalid hd]
    exact ⟨s.quad.acc, rfl⟩
  · rw [acceptEdge_valid hd]
    exact accumulate_quad _ (recordEdge new s)

/-- While the rotary source is disabled an edge is lost (R202, R305). -/
theorem encoderEdge_disabled {s : State} (h : s.quad.rotEn = false) (a b : Bool) :
    encoderEdge a b s = encoderPins a b s := by
  obtain ⟨_, e⟩ | ⟨hen, _⟩ | ⟨hen, _⟩ | ⟨hen, _⟩ := encoderEdge_cases a b s
  case inl => exact e
  all_goals simp [h] at hen

/-- Strictly inside the glitch window an edge is lost (R203). -/
theorem encoderEdge_glitch {s : State} {t0 : Nat} (hmask : s.ctl.mask = false) (hlast : s.quad.last = some t0)
    (hin : s.time - t0 < s.cfg.tGlitch) (a b : Bool) : encoderEdge a b s = encoderPins a b s := by
  obtain ⟨_, e⟩ | ⟨_, h, _⟩ | ⟨_, _, _, e⟩ | ⟨_, _, hout, _⟩ := encoderEdge_cases a b s
  · exact e
  · simp [hmask] at h
  · exact e
  · have := within_eq_false.mp hout t0 hlast
    omega

/-- Settles O43: lost while disabled and inside the window, else accepted. -/
theorem enableAndGlitchWindowDecideAcceptance : Obligations.EnableAndGlitchWindowDecideAcceptance := by
  refine ⟨fun s a b hen => ?disabled, fun s a b hen hmask => ⟨fun t0 hlast hin => ?glitch, fun htime => ?accepted⟩⟩
  case disabled =>
    rw [exec_encEdge, encoderEdge_disabled hen]
    rfl
  case glitch =>
    rw [exec_encEdge, encoderEdge_glitch hmask hlast hin]
    rfl
  case accepted =>
    obtain ⟨v, hquad⟩ := acceptEdge_quad (rawState a b) s
    refine ⟨_, exec_encEdge a b s, ?_⟩
    rw [encoderEdge_accepted ⟨hen, hmask, htime⟩, encoderPins_quad, hquad, rawState_eq_ofNat]
    exact ⟨rfl, rfl, hen⟩

/-- Settles O45: the transition is recorded, then counted where it is valid. -/
theorem transitionsCountAndEmit : Obligations.TransitionsCountAndEmit := by
  intro s a b hacc hdet new d
  have hexec : exec (.encEdge a b) s = .next (encoderPins a b (acceptEdge new s)) := by
    rw [exec_encEdge, encoderEdge_accepted hacc, rawState_eq_ofNat]
  let u : State := recordEdge new s
  have hvalid (h0 : d ≠ 0) : acceptEdge new s = accumulate d u := acceptEdge_valid h0
  refine ⟨_, hexec, fun h0 => ?invalid, fun h0 hlo hhi => ?inside, fun h0 hhi => ?clockwise,
    fun h0 hlo => ?counterclockwise⟩
  case invalid =>
    rw [acceptEdge_invalid h0]
    rfl
  case inside =>
    rw [hvalid h0, accumulate_inside (s := u) hlo hhi]
    rfl
  case clockwise =>
    rw [hvalid h0, accumulate_clockwise (s := u) hhi, (push_rotate u).1]
    rfl
  case counterclockwise =>
    rw [hvalid h0, accumulate_counterclockwise (s := u) hdet hlo, (push_rotate u).2]
    rfl

/-! ### Enabling and disabling the decoder (O47, O48) -/

/-- Settles O47: a task's call, with the raw state as a number. -/
theorem rotEnableResetsDecoder : Obligations.RotEnableResetsDecoder := by
  intro s a b hc
  rw [exec, execRotEnable, taskOnly_task hc, enableRotary, rawState_eq_ofNat]
  rfl

/-- Settles O48: a task's call; writing the value the enable already has is no change. -/
theorem rotDisableClearsEnableOnly : Obligations.RotDisableClearsEnableOnly := by
  intro s hc
  have hexec : exec .rotDisable s = .next { s with quad.rotEn := false } := by
    rw [exec, execRotDisable, taskOnly_task hc]
  refine ⟨hexec, fun hoff => ?_⟩
  rw [hexec, ← hoff]

/-! ### Turning one way (O49) -/

/-- The raw state after one transition up or down the cycle (R110). -/
def turnNext (up : Bool) (p : RawState) : RawState := if up then cycleNext p else cyclePrev p

/-- One transition of `turn`. -/
def turnOnce (up : Bool) (d : Nat) (s : State) : State :=
  encoderEdge ((turnNext up s.quad.prev).getLsbD 1) ((turnNext up s.quad.prev).getLsbD 0) (delay d s)

/-- The state in which a transition of `turn` is counted: `d` later, the transition recorded. -/
def turnRecorded (up : Bool) (d : Nat) (s : State) : State := recordEdge (turnNext up s.quad.prev) (delay d s)

/-- One transition more is one transition after the others. -/
theorem turn_succ (up : Bool) (d k : Nat) (s : State) : turn up d (k + 1) s = turnOnce up d (turn up d k s) := by
  induction k generalizing s with
  | zero => rfl
  | succ k ih => exact ih (turnOnce up d s)

/-- The count after `k` transitions one way from zero (R110, R206). -/
def turnCount (swap up : Bool) (k : Nat) : Int := if up = swap then -(k : Int) else k

/-- Each transition around the cycle is valid and has the direction's step (R110). -/
theorem transitionStep_turnNext (swap up : Bool) (p : RawState) :
    transitionStep swap p (turnNext up p) = turnCount swap up 1 := by
  revert swap up p
  decide

theorem turnCount_one_ne_zero (swap up : Bool) : turnCount swap up 1 ≠ 0 := by
  revert swap up
  decide

theorem turnCount_succ (swap up : Bool) (k : Nat) :
    turnCount swap up k + turnCount swap up 1 = turnCount swap up (k + 1) := by
  unfold turnCount
  split <;> omega

/-- Fewer transitions than a detent stay strictly inside the thresholds. -/
theorem turnCount_inside (swap up : Bool) {k n : Nat} (h : k < n) :
    -(n : Int) < turnCount swap up k ∧ turnCount swap up k < n := by
  unfold turnCount
  split <;> omega

/-- `t` is the state `s` turned `k` transitions one way, short of a detent: edges are still served, the count is `k` in
the direction's sign, and nothing was pushed. -/
structure Turned (up : Bool) (k : Nat) (s t : State) : Prop where
  enabled : t.quad.rotEn = true
  unmasked : t.ctl.mask = false
  past : ∀ t0, t.quad.last = some t0 → t0 ≤ t.time
  cfg : t.cfg = s.cfg
  acc : t.quad.acc = turnCount s.cfg.dirSwap up k
  chan : t.chan = s.chan
  trace : t.trace = s.trace

section Turn

variable {s t : State} {up : Bool} {d k : Nat}

/-- With the spacing of the glitch window kept, the next edge is accepted (R203). -/
theorem Turned.accepts (h : Turned up k s t) (hd : s.cfg.tGlitch ≤ d) : Accepts (delay d t) where
  enabled := h.enabled
  unmasked := h.unmasked
  in_time t0 hlast := by
    have hpast := h.past t0 hlast
    rw [delay_cfg, delay_time, h.cfg]
    omega

/-- The next transition is recorded and counted, whatever the levels of the pins. -/
theorem Turned.turnOnce_eq (h : Turned up k s t) (hd : s.cfg.tGlitch ≤ d) : ∃ a b,
    turnOnce up d t = encoderPins a b (accumulate (turnCount s.cfg.dirSwap up 1) (turnRecorded up d t)) := by
  have hstep : transitionStep (delay d t).cfg.dirSwap (delay d t).quad.prev (turnNext up t.quad.prev) =
      turnCount s.cfg.dirSwap up 1 := by
    rw [delay_cfg, delay_quad, h.cfg, transitionStep_turnNext]
  have hvalid := fun h0 => turnCount_one_ne_zero s.cfg.dirSwap up (hstep.symm.trans h0)
  exact ⟨_, _, by rw [turnOnce, encoderEdge_accepted (h.accepts hd), rawState_levels, acceptEdge_valid hvalid, hstep,
    turnRecorded]⟩

/-- The count that the next transition makes. -/
theorem Turned.acc_turnRecorded (h : Turned up k s t) (d : Nat) :
    (turnRecorded up d t).quad.acc + turnCount s.cfg.dirSwap up 1 = turnCount s.cfg.dirSwap up (k + 1) := by
  have hacc : (turnRecorded up d t).quad.acc = turnCount s.cfg.dirSwap up k := h.acc
  rw [hacc, turnCount_succ]

/-- The thresholds it is held to. -/
theorem Turned.nDetent_turnRecorded (h : Turned up k s t) (d : Nat) :
    (turnRecorded up d t).cfg.nDetent = s.cfg.nDetent :=
  congrArg Params.nDetent h.cfg

/-- A transition short of the detent (R206). -/
theorem Turned.step (h : Turned up k s t) (hd : s.cfg.tGlitch ≤ d) (hk : k + 1 < s.cfg.nDetent) :
    Turned up (k + 1) s (turnOnce up d t) := by
  obtain ⟨a, b, e⟩ := h.turnOnce_eq hd
  obtain ⟨hlo, hhi⟩ := turnCount_inside s.cfg.dirSwap up hk
  rw [← h.acc_turnRecorded d, ← h.nDetent_turnRecorded d] at hlo hhi
  rw [e, accumulate_inside hlo hhi, h.acc_turnRecorded]
  exact ⟨h.enabled, h.unmasked, fun t0 hlast => Nat.le_of_eq (Option.some.inj hlast).symm, h.cfg, rfl, h.chan, h.trace⟩

/-- Any number of transitions short of the detent. -/
theorem turned_turn (h0 : Turned up 0 s s) (hd : s.cfg.tGlitch ≤ d) (hk : k < s.cfg.nDetent) :
    Turned up k s (turn up d k s) := by
  induction k with
  | zero => exact h0
  | succ k ih =>
    rw [turn_succ]
    exact (ih (by omega)).step hd hk

/-- The transition that completes the detent pushes the direction's event (R207, R208). -/
theorem Turned.completes_detent (h : Turned up k s t) (hd : s.cfg.tGlitch ≤ d) (hk : k + 1 = s.cfg.nDetent) :
    ∃ a b, turnOnce up d t = encoderPins a b (setAcc 0
      (push (if up = s.cfg.dirSwap then .rotateCCW else .rotateCW) (turnRecorded up d t))) := by
  obtain ⟨a, b, e⟩ := h.turnOnce_eq hd
  have hacc := h.acc_turnRecorded d
  have hdet := h.nDetent_turnRecorded d
  refine ⟨a, b, e.trans ?_⟩
  by_cases hdir : up = s.cfg.dirSwap
  · rw [if_pos hdir, accumulate_counterclockwise (by omega)
      (Int.le_of_eq (by rw [hacc, hdet, turnCount, if_pos hdir, hk]))]
  · rw [if_neg hdir, accumulate_clockwise (Int.le_of_eq (by rw [hacc, hdet, turnCount, if_neg hdir, hk]))]

end Turn

/-- Settles O49: the transitions before the detent one by one, then the one that completes it. -/
theorem fullDetentEmitsOneEvent : Obligations.FullDetentEmitsOneEvent := by
  intro s up d k hen hmask hacc hpast hd hk1 hkn t
  have h0 : Turned up 0 s s := ⟨hen, hmask, hpast, rfl, by simp [hacc, turnCount], rfl, rfl⟩
  split
  next hlt =>
    have h := turned_turn h0 hd hlt
    exact ⟨h.acc, h.chan, h.trace⟩
  next hge =>
    obtain ⟨j, rfl⟩ : ∃ j, k = j + 1 := ⟨k - 1, by omega⟩
    have h := turned_turn h0 hd (show j < s.cfg.nDetent by omega)
    obtain ⟨a, b, e⟩ := h.completes_detent hd (by omega)
    have htrace := congrArg (·.history) h.trace
    have ht : t = _ := (turn_succ up d j s).trans e
    rw [ht]
    split
    next =>
      rw [(push_rotate _).2]
      exact ⟨rfl, rfl, rfl, rfl, congrArg (· ++ _) htrace⟩
    next =>
      rw [(push_rotate _).1]
      exact ⟨rfl, rfl, rfl, rfl, congrArg (· ++ _) htrace⟩

end Sys2Proof.Machine

/-! ## The button latch: releases, presses and the order of its events (O51, O52, O53) -/

namespace Sys2Proof.Machine

/-! ### An unmasked button edge -/

theorem exec_btnEdge (l : Bool) (s : State) : exec (.btnEdge l) s = .next (buttonEdge l s) := rfl

/-- A ButtonDown always makes a record (R253). -/
theorem push_buttonDown (s : State) :
    push .buttonDown s =
      { s with
        chan := { slot := .buttonDown, record := ⟨.btn, false⟩, avail := true }
        trace.history := s.trace.history ++ [.push .buttonDown] } :=
  rfl

/-- A ButtonUp makes one where the parameter asks for it (R253). -/
theorem push_buttonUp (s : State) :
    push .buttonUp s =
      { s with
        chan :=
          if s.cfg.lastevOnUp then { slot := .buttonUp, record := ⟨.btn, false⟩, avail := true }
          else { s.chan with slot := .buttonUp }
        trace.history := s.trace.history ++ [.push .buttonUp] } := by
  obtain ⟨r, hr, h⟩ | ⟨hr, h⟩ := push_cases .buttonUp s <;> rw [h]
  · obtain ⟨hup, rfl⟩ : s.cfg.lastevOnUp = true ∧ ⟨.btn, false⟩ = r := by simpa [recordOf] using hr
    rw [if_pos hup, slotOf]
  · have hup : ¬ s.cfg.lastevOnUp = true := by simpa [recordOf] using hr
    rw [if_neg hup, slotOf]

section Edge

variable {s : State} {l : Bool}

/-- The press level selects the press handler (R231). -/
theorem buttonEdge_press (hmask : s.ctl.mask = false) (hl : l = s.cfg.btnActive) :
    buttonEdge l s = { pressButton s with pins.btn := l } := by
  obtain ⟨h, _⟩ | ⟨_, _, h⟩ | ⟨_, hne, _⟩ := buttonEdge_cases l s
  · simp [hmask] at h
  · exact h
  · exact absurd hl hne

/-- The other level selects the release handler (R231). -/
theorem buttonEdge_release (hmask : s.ctl.mask = false) (hl : l ≠ s.cfg.btnActive) :
    buttonEdge l s = { releaseButton s with pins.btn := l } := by
  obtain ⟨h, _⟩ | ⟨_, heq, _⟩ | ⟨_, _, h⟩ := buttonEdge_cases l s
  · simp [hmask] at h
  · exact absurd heq hl
  · exact h

theorem releaseButton_clear (h : s.button.latch = false) : releaseButton s = s := by
  obtain ⟨_, e⟩ | ⟨hset, _⟩ := releaseButton_cases s
  · exact e
  · simp [h] at hset

theorem releaseButton_set (h : s.button.latch = true) :
    releaseButton s = push .buttonUp { s with button.latch := false } := by
  obtain ⟨hclear, _⟩ | ⟨_, e⟩ := releaseButton_cases s
  · simp [h] at hclear
  · exact e

/-- Strictly inside the window of the last accepted press a press is ignored (R233). -/
theorem pressButton_bounce {t0 : Nat} (hlast : s.button.last = some t0) (hin : s.time - t0 < s.cfg.tDebounce) :
    pressButton s = s := by
  obtain e | ⟨_, hout, _⟩ := pressButton_cases s
  · exact e
  · have := within_eq_false.mp hout t0 hlast
    omega

/-- So is one while the latch is set (R234). -/
theorem pressButton_latched (h : s.button.latch = true) : pressButton s = s := by
  obtain e | ⟨hclear, _⟩ := pressButton_cases s
  · exact e
  · simp [h] at hclear

/-- Any other press is accepted (R234). -/
theorem pressButton_accepted (hout : ∀ t0, s.button.last = some t0 → s.cfg.tDebounce ≤ s.time - t0)
    (h : s.button.latch = false) :
    pressButton s = push .buttonDown { s with button := { latch := true, last := some s.time } } := by
  simp [pressButton, within_eq_false.mpr hout, h]

end Edge

/-- Settles O51: the latch alone decides what a release does. -/
theorem releaseIsImmediate : Obligations.ReleaseIsImmediate := by
  intro s l hmask hl
  refine ⟨_, exec_btnEdge l s, fun hclear => ?clear, fun hset => ?set⟩ <;> rw [buttonEdge_release hmask hl]
  case clear => rw [releaseButton_clear hclear]
  case set => rw [releaseButton_set hset, push_buttonUp]

/-- Settles O52: ignored inside the window and while latched, else accepted. -/
theorem pressIsDebounced : Obligations.PressIsDebounced := by
  intro s l hmask hl
  refine ⟨_, exec_btnEdge l s, fun t0 hlast hin => ?bounce, fun hset => ?latched, fun hout hclear => ?accepted⟩ <;>
    rw [buttonEdge_press hmask hl]
  case bounce => rw [pressButton_bounce hlast hin]
  case latched => rw [pressButton_latched hset]
  case accepted => rw [pressButton_accepted hout hclear, push_buttonDown]

/-! ### Any button edges, one after the other (O53) -/

/-- The event that the latch calls for next (R235). -/
def latchEvent (latch : Bool) : Event := .push (if latch then .buttonUp else .buttonDown)

/-- A handled edge is ignored, or it turns the latch over and pushes the event that the latch called for. -/
theorem buttonEdge_ignores_or_toggles {s : State} (hmask : s.ctl.mask = false) (l : Bool) :
    (buttonEdge l s).ctl = s.ctl ∧
    (((buttonEdge l s).trace.history = s.trace.history ∧ (buttonEdge l s).button.latch = s.button.latch) ∨
      ((buttonEdge l s).trace.history = s.trace.history ++ [latchEvent s.button.latch] ∧
        (buttonEdge l s).button.latch = !s.button.latch)) := by
  by_cases hl : l = s.cfg.btnActive
  case pos =>
    rw [buttonEdge_press hmask hl]
    obtain e | ⟨hclear, _, e⟩ := pressButton_cases s <;> rw [e]
    · exact ⟨rfl, .inl ⟨rfl, rfl⟩⟩
    · rw [push_buttonDown, hclear]
      exact ⟨rfl, .inr ⟨rfl, rfl⟩⟩
  case neg =>
    rw [buttonEdge_release hmask hl]
    obtain ⟨_, e⟩ | ⟨hset, e⟩ := releaseButton_cases s <;> rw [e]
    · exact ⟨rfl, .inl ⟨rfl, rfl⟩⟩
    · rw [push_buttonUp, hset]
      exact ⟨rfl, .inr ⟨rfl, rfl⟩⟩

/-- From `s` to `t` the history grew by `pushed`, which alternates from the event the latch of `s` called for, and the
latch was turned over once for each event (R235, R236). -/
structure LatchRun (s : State) (pushed : List Event) (t : State) : Prop where
  history : t.trace.history = s.trace.history ++ pushed
  alternate : alternates (latchEvent s.button.latch) (latchEvent !s.button.latch) pushed = true
  latch : t.button.latch = if pushed.length % 2 = 0 then s.button.latch else !s.button.latch

section Run

variable {s u t : State} {pushed : List Event}

theorem LatchRun.refl (s : State) : LatchRun s [] s where
  history := (List.append_nil _).symm
  alternate := rfl
  latch := rfl

/-- An ignored edge before the run. -/
theorem LatchRun.after_ignored (h : LatchRun u pushed t) (hhist : u.trace.history = s.trace.history)
    (hlatch : u.button.latch = s.button.latch) : LatchRun s pushed t where
  history := hhist ▸ h.history
  alternate := hlatch ▸ h.alternate
  latch := hlatch ▸ h.latch

/-- An accepted edge before the run. -/
theorem LatchRun.after_toggled (h : LatchRun u pushed t)
    (hhist : u.trace.history = s.trace.history ++ [latchEvent s.button.latch])
    (hlatch : u.button.latch = !s.button.latch) : LatchRun s (latchEvent s.button.latch :: pushed) t where
  history := by rw [h.history, hhist, List.append_assoc, List.singleton_append]
  alternate := by
    have halt := h.alternate
    rw [hlatch, Bool.not_not] at halt
    simp [alternates, halt]
  latch := by
    rw [h.latch, hlatch, Bool.not_not, List.length_cons]
    obtain hn | hn := Nat.mod_two_eq_zero_or_one pushed.length
    · rw [if_pos hn, if_neg (by omega)]
    · rw [if_neg (by omega), if_pos (by omega)]

/-- Where the latch was turned over an even number of times it is what it was, else the opposite. -/
theorem LatchRun.latch_iff (h : LatchRun s pushed t) :
    t.button.latch = true ↔
      (if pushed.length % 2 = 0 then s.button.latch = true else s.button.latch = false) := by
  rw [h.latch]
  by_cases heven : pushed.length % 2 = 0
  · rw [if_pos heven, if_pos heven]
  · rw [if_neg heven, if_neg heven, Bool.not_eq_true']

end Run

/-- Whatever the edges and their times, serving them is a run of the latch. -/
theorem latchRun_serveButtons (edges : List (Nat × Bool)) {s : State} (hmask : s.ctl.mask = false) :
    ∃ pushed, LatchRun s pushed (serveButtons edges s) := by
  induction edges generalizing s with
  | nil => exact ⟨[], LatchRun.refl s⟩
  | cons edge rest ih =>
    obtain ⟨t, l⟩ := edge
    obtain ⟨hctl, hedge⟩ := buttonEdge_ignores_or_toggles (s := timeTo t s) hmask l
    obtain ⟨pushed, hrun⟩ := ih (s := buttonEdge l (timeTo t s)) (hctl ▸ hmask)
    obtain ⟨hhist, hlatch⟩ | ⟨hhist, hlatch⟩ := hedge
    · exact ⟨pushed, hrun.after_ignored hhist hlatch⟩
    · exact ⟨_, hrun.after_toggled hhist hlatch⟩

/-- Settles O53: the latch calls for the first event and for each one after it. -/
theorem buttonEventsAlternate : Obligations.ButtonEventsAlternate := by
  intro edges s hmask
  obtain ⟨pushed, hrun⟩ := latchRun_serveButtons edges hmask
  refine ⟨pushed, hrun.history, ?_, hrun.latch_iff⟩
  have halt := hrun.alternate
  split
  next hset => rwa [hset] at halt
  next hclear => rwa [eq_false_of_ne_true hclear] at halt

end Sys2Proof.Machine

/-! ## The event channel: what EV_POP and EV_WAIT_READ return (O55, O58, O59) -/

namespace Sys2Proof.Machine

/-! ### The records that the history says EV_WAIT_READ returned -/

/-- The record that an entry of the history says an EV_WAIT_READ returned (R79, R254). -/
@[simp] def Event.recordRead : Event → Option Record
  | .waitRead r => some r
  | _ => none

/-- The results of EV_WAIT_READ in a history, in order. -/
def recordsRead (h : List Event) : List Record := h.filterMap Event.recordRead

@[simp] theorem recordsRead_append (h h' : List Event) : recordsRead (h ++ h') = recordsRead h ++ recordsRead h' :=
  List.filterMap_append

@[simp] theorem recordsRead_singleton (e : Event) : recordsRead [e] = e.recordRead.toList := by
  cases e <;> rfl

theorem mem_recordsRead {h : List Event} {r : Record} (hr : .waitRead r ∈ h) : r ∈ recordsRead h :=
  List.mem_filterMap.mpr ⟨_, hr, rfl⟩

/-! ### The engines read no record -/

/-- A choice between two operations that read no record is one. -/
theorem recordsRead_ite {c : Prop} [Decidable c] {s t u : State}
    (ht : recordsRead t.trace.history = recordsRead s.trace.history)
    (hu : recordsRead u.trace.history = recordsRead s.trace.history) :
    recordsRead (if c then t else u).trace.history = recordsRead s.trace.history := by
  split
  · exact ht
  · exact hu

theorem recordsRead_inPlace (here : Bool) {f : State → State} {s : State}
    (hf : recordsRead (f s).trace.history = recordsRead s.trace.history) :
    recordsRead (inPlace here f s).trace.history = recordsRead s.trace.history :=
  recordsRead_ite hf rfl

section Engines

variable (s : State)

/-- An entry that is no result of an EV_WAIT_READ. -/
theorem recordsRead_recordEvent {e : Event} (he : recordsRead [e] = []) :
    recordsRead (recordEvent e s).trace.history = recordsRead s.trace.history := by
  rw [recordEvent, recordsRead_append, he, List.append_nil]

@[simp] theorem recordsRead_releaseLock (e : Engine) :
    recordsRead (releaseLock e s).trace.history = recordsRead s.trace.history :=
  recordsRead_ite rfl rfl

@[simp] theorem recordsRead_bitAct (k : ByteKind) (q : BitPhase) :
    recordsRead (bitAct k q s).trace.history = recordsRead s.trace.history := by
  cases q <;> rfl

@[simp] theorem recordsRead_writeByte (turn : Bool) (b : Byte) :
    recordsRead (writeByte turn b s).trace.history = recordsRead s.trace.history := by
  rw [writeByte_eq]

@[simp] theorem recordsRead_readByte : recordsRead (readByte s).trace.history = recordsRead s.trace.history := by
  obtain ⟨v, h, _⟩ := readByte_eq s
  rw [h]

@[simp] theorem recordsRead_afterCommand :
    recordsRead (afterCommand s).trace.history = recordsRead s.trace.history := by
  unfold afterCommand
  split <;> rfl

@[simp] theorem recordsRead_afterData : recordsRead (afterData s).trace.history = recordsRead s.trace.history := by
  unfold afterData
  repeat' split
  all_goals rfl

theorem recordsRead_byteTick {k : ByteKind} {put : BitPhase → CPhase} {done : State → State}
    (hd : ∀ s, recordsRead (done s).trace.history = recordsRead s.trace.history) (q : BitPhase) :
    recordsRead (byteTick k put done q s).trace.history = recordsRead s.trace.history := by
  unfold byteTick
  split <;> simp [hd]

@[simp] theorem recordsRead_closeTick : recordsRead (closeTick s).trace.history = recordsRead s.trace.history := by
  unfold closeTick
  split <;> simp

@[simp] theorem recordsRead_settleTick : recordsRead (settleTick s).trace.history = recordsRead s.trace.history := by
  unfold settleTick
  repeat' split
  all_goals rfl

@[simp] theorem recordsRead_finishTick : recordsRead (finishTick s).trace.history = recordsRead s.trace.history := by
  unfold finishTick finishWrite
  split <;> simp

@[simp] theorem recordsRead_windowTick : recordsRead (windowTick s).trace.history = recordsRead s.trace.history := by
  unfold windowTick
  cases s.rtc.phase with
  | command q => exact recordsRead_byteTick s recordsRead_afterCommand q
  | data q => exact recordsRead_byteTick s recordsRead_afterData q
  | _ => simp

@[simp] theorem recordsRead_decodeClock : recordsRead (decodeClock s).trace.history = recordsRead s.trace.history := by
  obtain ⟨v, _, h⟩ | ⟨_, h⟩ := decodeClock_cases s <;> rw [h]
  rfl

@[simp] theorem recordsRead_rtcTick : recordsRead (rtcTick s).trace.history = recordsRead s.trace.history := by
  unfold rtcTick
  split
  · rfl
  · exact recordsRead_decodeClock s
  · exact recordsRead_ite rfl rfl
  · exact recordsRead_windowTick s

@[simp] theorem recordsRead_runRtc (n : Nat) :
    recordsRead (runRtc n s).trace.history = recordsRead s.trace.history := by
  induction n generalizing s with
  | zero => rfl
  | succ n ih => exact recordsRead_ite rfl ((ih _).trans (recordsRead_rtcTick s))

theorem recordsRead_untilByte (n : Nat) :
    recordsRead (untilByte n s).trace.history = recordsRead s.trace.history := by
  induction n generalizing s with
  | zero => rfl
  | succ n ih => exact recordsRead_ite (recordsRead_rtcTick s) ((ih _).trans (recordsRead_rtcTick s))

theorem recordsRead_rtcByte : recordsRead (rtcByte s).trace.history = recordsRead s.trace.history :=
  recordsRead_untilByte s 48

@[simp] theorem recordsRead_displace : recordsRead (displace s).trace.history = recordsRead s.trace.history :=
  recordsRead_ite rfl rfl

@[simp] theorem recordsRead_startRead : recordsRead (startRead s).trace.history = recordsRead s.trace.history :=
  recordsRead_displace s

@[simp] theorem recordsRead_startWrite (v : ClockValue) :
    recordsRead (startWrite v s).trace.history = recordsRead s.trace.history :=
  recordsRead_ite (recordsRead_displace s) (recordsRead_displace s)

theorem recordsRead_openWindow : recordsRead (openWindow s).trace.history = recordsRead s.trace.history := rfl

theorem recordsRead_closeWindow : recordsRead (closeWindow s).trace.history = recordsRead s.trace.history := rfl

@[simp] theorem recordsRead_pairOpen (cmd : Byte) :
    recordsRead (pairOpen cmd s).trace.history = recordsRead s.trace.history := by
  rw [pairOpen, recordsRead_writeByte, recordsRead_openWindow]

@[simp] theorem recordsRead_pairClose (cmd v : Byte) :
    recordsRead (pairClose cmd v s).trace.history = recordsRead s.trace.history := by
  rw [pairClose, recordsRead_recordEvent _ rfl, driveRio_trace, recordsRead_closeWindow, recordsRead_writeByte]

@[simp] theorem recordsRead_burstBytes (n j : Nat) :
    recordsRead (burstBytes n j s).trace.history = recordsRead s.trace.history := by
  induction n generalizing j s with
  | zero => rfl
  | succ n ih =>
    rw [burstBytes, ih]
    split
    · rw [storeByte_trace, recordsRead_readByte]
    · rfl

@[simp] theorem recordsRead_burstRead : recordsRead (burstRead s).trace.history = recordsRead s.trace.history := by
  rw [burstRead, recordsRead_recordEvent _ rfl, recordsRead_closeWindow, recordsRead_burstBytes, recordsRead_writeByte,
    ← recordsRead_openWindow s]

@[simp] theorem recordsRead_sensorExit : recordsRead (sensorExit s).trace.history = recordsRead s.trace.history := by
  rw [sensorExit_eq]

@[simp] theorem recordsRead_raiseSensor (e : ErrCode) (k : Nat) :
    recordsRead (raiseSensor e k s).trace.history = recordsRead s.trace.history := by
  simp [raiseSensor]

@[simp] theorem recordsRead_finishSensor : recordsRead (finishSensor s).trace.history = recordsRead s.trace.history :=
  recordsRead_sensorExit _

@[simp] theorem recordsRead_waitLevel (v : Bool) :
    recordsRead (waitLevel v s).trace.history = recordsRead s.trace.history := rfl

@[simp] theorem recordsRead_sampleLine : recordsRead (sampleLine s).trace.history = recordsRead s.trace.history := rfl

theorem recordsRead_waitThen (v : Bool) {onward : State → State}
    (ho : ∀ s, recordsRead (onward s).trace.history = recordsRead s.trace.history) :
    recordsRead (waitThen v onward s).trace.history = recordsRead s.trace.history := by
  obtain ⟨_, h⟩ | ⟨_, h⟩ := waitThen_cases v onward s <;> simp [h, ho]

@[simp] theorem recordsRead_afterBit (i : Fin 40) :
    recordsRead (afterBit i s).trace.history = recordsRead s.trace.history := by
  unfold afterBit
  split <;> simp

@[simp] theorem recordsRead_sensorTick (want : Option Nat) :
    recordsRead (sensorTick want s).trace.history = recordsRead s.trace.history := by
  unfold sensorTick
  cases s.sensor.seq with
  | idle | wake | release | bitSample => rfl
  | hs1 | hs2 | hs3 | bitHi => exact recordsRead_waitThen s _ fun _ => rfl
  | bitLo i => exact recordsRead_waitThen s _ (recordsRead_afterBit · i)
  | check => exact recordsRead_ite (recordsRead_finishSensor s) (recordsRead_raiseSensor s _ _)

@[simp] theorem recordsRead_runSensor (n : Nat) :
    recordsRead (runSensor n s).trace.history = recordsRead s.trace.history := by
  induction n generalizing s with
  | zero => rfl
  | succ n ih => exact recordsRead_ite rfl ((ih _).trans (recordsRead_sensorTick s none))

@[simp] theorem recordsRead_startRequest (r : Request) :
    recordsRead (startRequest r s).trace.history = recordsRead s.trace.history := by
  cases r with
  | readSensor => rfl
  | readClock => exact recordsRead_startRead s
  | writeClock v => exact recordsRead_startWrite s v

theorem recordsRead_dataByte (j : Fin 8) (b : Byte) :
    recordsRead (dataByte j b s).trace.history = recordsRead s.trace.history := by
  unfold dataByte
  repeat' split
  · exact recordsRead_rtcByte _
  · rfl
  · exact recordsRead_inPlace _ (recordsRead_rtcByte s)
  · rfl
  · rfl

theorem recordsRead_frameByte (n : Fin 5) (b : Byte) :
    recordsRead (frameByte n b s).trace.history = recordsRead s.trace.history := by
  unfold frameByte
  repeat' split
  · exact recordsRead_runSensor _ 24
  · rfl
  · rfl

end Engines

/-! ### Nor do the handlers, and EV_POP -/

section Handlers

variable (s : State)

@[simp] theorem recordsRead_push (e : PushEvent) :
    recordsRead (push e s).trace.history = recordsRead s.trace.history := by
  obtain ⟨_, _, h⟩ | ⟨_, h⟩ := push_cases e s <;> simp [h]

@[simp] theorem recordsRead_pop : recordsRead (pop s).trace.history = recordsRead s.trace.history := by
  simp [pop]

@[simp] theorem recordsRead_buttonEdge (l : Bool) :
    recordsRead (buttonEdge l s).trace.history = recordsRead s.trace.history := by
  obtain ⟨_, h⟩ | ⟨_, _, h⟩ | ⟨_, _, h⟩ := buttonEdge_cases l s <;> rw [h]
  · obtain hp | ⟨_, _, hp⟩ := pressButton_cases s <;> simp [hp]
  · obtain ⟨_, hr⟩ | ⟨_, hr⟩ := releaseButton_cases s <;> simp [hr]

@[simp] theorem recordsRead_acceptEdge (new : RawState) :
    recordsRead (acceptEdge new s).trace.history = recordsRead s.trace.history := by
  have counted (d : Int) (s : State) :
      recordsRead (accumulate d s).trace.history = recordsRead s.trace.history := by
    obtain ⟨_, h⟩ | ⟨_, _, h⟩ | ⟨_, _, h⟩ := accumulate_cases d s <;> simp [h]
  exact recordsRead_ite rfl (counted _ _)

@[simp] theorem recordsRead_encoderEdge (a b : Bool) :
    recordsRead (encoderEdge a b s).trace.history = recordsRead s.trace.history := by
  obtain ⟨_, h⟩ | ⟨_, _, h⟩ | ⟨_, _, _, h⟩ | ⟨_, _, _, h⟩ := encoderEdge_cases a b s <;> rw [h]
  · rfl
  · rfl
  · rfl
  · exact recordsRead_acceptEdge s _

end Handlers

/-! ### Every step reads at most the record of a set signal -/

/-- Between `s` and `t` no record is read, or the one that `s` holds, with its signal set (R254). -/
def ReadsOwnRecord (s t : State) : Prop :=
  recordsRead t.trace.history = recordsRead s.trace.history ∨
  s.chan.avail = true ∧ recordsRead t.trace.history = recordsRead s.trace.history ++ [s.chan.record]

/-- The one operation that reads a record, where the signal is set (R254). -/
theorem takeRecord_readsOwnRecord {s : State} (h : s.chan.avail = true) : ReadsOwnRecord s (takeRecord s) :=
  .inr ⟨h, by simp [takeRecord]⟩

section Instructions

variable {s t u : State}

/-- States that differ in neither the record nor the history read alike. -/
theorem ReadsOwnRecord.of_same (h : ReadsOwnRecord u t) (hc : u.chan = s.chan) (htr : u.trace = s.trace) :
    ReadsOwnRecord s t := by
  unfold ReadsOwnRecord at h ⊢
  rwa [← hc, ← htr]

theorem taskOnly_readsOwnRecord {r : Refusal} (h : taskOnly r s (.next u) = .next t) (hu : ReadsOwnRecord s u) :
    ReadsOwnRecord s t := by
  cases (taskOnly_next h).2
  exact hu

theorem busStep_readsOwnRecord {f : State → State} (h : busStep f s = .next t)
    (hf : recordsRead (f s).trace.history = recordsRead s.trace.history) : ReadsOwnRecord s t :=
  taskOnly_readsOwnRecord h (.inl hf)

/-- The result codes of EV_WAIT_READ are in place only where there is a record to read (R254, log 11). -/
theorem readOf_readsOwnRecord {isIt : Record → Bool} (h : readOf isIt s = .next t) : ReadsOwnRecord s t := by
  refine taskOnly_readsOwnRecord h ?_
  obtain ⟨hin, e⟩ | ⟨_, e⟩ := inPlace_cases (s.chan.avail && isIt s.chan.record) takeRecord s <;> rw [e]
  · exact takeRecord_readsOwnRecord (Bool.and_eq_true_iff.mp hin).1
  · exact .inl rfl

theorem execReadSensor_readsOwnRecord (h : execReadSensor s = .next t) : ReadsOwnRecord s t :=
  busStep_readsOwnRecord h (recordsRead_ite (recordsRead_runSensor _ _) rfl)

theorem execReadClock_readsOwnRecord (h : execReadClock s = .next t) : ReadsOwnRecord s t :=
  busStep_readsOwnRecord h (recordsRead_ite ((recordsRead_runRtc _ _).trans (recordsRead_startRead s)) rfl)

theorem execWriteClock_readsOwnRecord {v : ClockValue} (h : execWriteClock v s = .next t) : ReadsOwnRecord s t :=
  busStep_readsOwnRecord h (recordsRead_ite ((recordsRead_runRtc _ _).trans (recordsRead_startWrite s v)) rfl)

theorem execRtcPair_readsOwnRecord {cmd v : Byte} (h : execRtcPair cmd v s = .next t) : ReadsOwnRecord s t :=
  busStep_readsOwnRecord h ((recordsRead_pairClose _ cmd v).trans (recordsRead_pairOpen s cmd))

theorem execErrOK_readsOwnRecord (h : execErrOK s = .next t) : ReadsOwnRecord s t :=
  busStep_readsOwnRecord h <|
    recordsRead_ite (recordsRead_sensorTick s none) (recordsRead_inPlace _ (recordsRead_rtcTick s))

theorem execErrRangeError_readsOwnRecord (h : execErrRangeError s = .next t) : ReadsOwnRecord s t := by
  refine busStep_readsOwnRecord h ?_
  cases s.rtc.seq with
  | rDecode => exact recordsRead_inPlace _ (recordsRead_rtcTick s)
  | wCheck => exact recordsRead_inPlace _ rfl
  | _ => rfl

/-- Every instruction: only EV_WAIT_READ and its result codes read a record. -/
theorem exec_readsOwnRecord {i : Instr} (h : exec i s = .next t) : ReadsOwnRecord s t := by
  cases i
  case evWaitRead =>
    refine taskOnly_readsOwnRecord h ?_
    split
    next havail => exact takeRecord_readsOwnRecord havail
    next => exact .inl rfl
  case lrecNone | lrecRotPlus | lrecRotMinus | lrecBtn => rw [exec] at h; exact readOf_readsOwnRecord h
  case readSensor => exact execReadSensor_readsOwnRecord h
  case readClock => exact execReadClock_readsOwnRecord h
  case writeClock v => exact execWriteClock_readsOwnRecord h
  case evPop => exact taskOnly_readsOwnRecord h (.inl (recordsRead_pop s))
  case rotEnable | rotDisable => exact taskOnly_readsOwnRecord h (.inl rfl)
  case encEdge a b => cases h; exact .inl (recordsRead_encoderEdge s a b)
  case btnEdge l => cases h; exact .inl (recordsRead_buttonEdge s l)
  case hostopReserved | errTransportError => cases h
  case waitLevel | sample => exact busStep_readsOwnRecord h rfl
  case rtcWriteByte b => exact busStep_readsOwnRecord h (recordsRead_writeByte s false b)
  case rtcReadByte => exact busStep_readsOwnRecord h (recordsRead_readByte s)
  case rtcPair cmd v => exact execRtcPair_readsOwnRecord h
  case burstRead => exact busStep_readsOwnRecord h (recordsRead_burstRead s)
  case evPush e => cases h; exact .inl ((inHandler_push e s).symm ▸ recordsRead_push s e)
  case cmdBurstRead | cmdWrSeconds | cmdWrMinutes | cmdWrHours | cmdWrDay | cmdWrMonth | cmdWrWeekday | cmdWrYear
      | cmdWrControl | wpOff | wpOn =>
    exact busStep_readsOwnRecord h (recordsRead_inPlace _ (recordsRead_rtcByte s))
  case rdataSeconds | rdataMinutes | rdataHours | rdataDay | rdataMonth | rdataWeekday | rdataYear | rdataControl =>
    exact busStep_readsOwnRecord h (recordsRead_dataByte s _ _)
  case sframeHumInt | sframeHumFrac | sframeTempInt | sframeTempFrac | sframeChecksum =>
    exact busStep_readsOwnRecord h (recordsRead_frameByte s _ _)
  case q_00_00 | q_00_01 | q_00_10 | q_00_11 | q_01_00 | q_01_01 | q_01_10 | q_01_11 | q_10_00 | q_10_01 | q_10_10
      | q_10_11 | q_11_00 | q_11_01 | q_11_10 | q_11_11 =>
    cases h; exact .inl (recordsRead_inPlace _ (recordsRead_encoderEdge s _ _))
  case evNone | evRotateCW | evRotateCCW | evButtonDown | evButtonUp =>
    exact taskOnly_readsOwnRecord h (.inl (recordsRead_inPlace _ (recordsRead_pop s)))
  case errOK => exact execErrOK_readsOwnRecord h
  case errTimeout | errChecksumMismatch =>
    exact busStep_readsOwnRecord h (recordsRead_inPlace _ (recordsRead_sensorTick s none))
  case errRangeError => exact execErrRangeError_readsOwnRecord h

end Instructions

/-! ### Agents, lines and the step -/

theorem recordsRead_grantRequest (n : Nat) (s : State) :
    recordsRead (grantRequest n s).trace.history = recordsRead s.trace.history := by
  unfold grantRequest
  split
  · exact recordsRead_ite (recordsRead_startRequest _ _) rfl
  · rfl

theorem recordsRead_serveLate (src : Source) (s : State) :
    recordsRead (serveLate src s).trace.history = recordsRead s.trace.history := by
  refine recordsRead_ite ?_ rfl
  cases src with
  | btn => exact recordsRead_buttonEdge _ _
  | encA | encB => exact recordsRead_encoderEdge _ _ _

/-- A blocked reader goes on only where there is a record to read (R254). -/
theorem wakeReader_readsOwnRecord (s : State) : ReadsOwnRecord s (wakeReader s) := by
  unfold wakeReader
  split
  next hwake =>
    obtain ⟨havail, _⟩ := hwake
    exact (takeRecord_readsOwnRecord havail).of_same rfl rfl
  next => exact .inl rfl

theorem runPick_readsOwnRecord (p : Pick) (s : State) : ReadsOwnRecord s (runPick p s) := by
  obtain ⟨_, h⟩ | ⟨_, _, h⟩ := runPick_cases p s <;> rw [h]
  · cases p with
    | sensor want => exact .inl (recordsRead_sensorTick s want)
    | rtc => exact .inl (recordsRead_rtcTick s)
    | grant n => exact .inl (recordsRead_grantRequest n s)
    | reader => exact wakeReader_readsOwnRecord s
    | late src => exact .inl (recordsRead_serveLate src s)
  · exact .inl rfl

theorem goOn_readsOwnRecord (s : State) : ReadsOwnRecord s (goOn s) := by
  unfold goOn
  split
  · exact runPick_readsOwnRecord _ s
  · exact .inl rfl

theorem runLine_readsOwnRecord {l : Line} {i : Instr} {s t : State} (h : runLine l i s = .next t) :
    ReadsOwnRecord s t := by
  obtain ⟨_, e⟩ | ⟨r, _, _, e⟩ := runLine_cases l i s <;> rw [e] at h
  · exact exec_readsOwnRecord h
  · exact busStep_readsOwnRecord h (recordsRead_ite (recordsRead_startRequest s r) rfl)

/-- A line's turn leaves the event channel and the history alone (R74, R116). -/
theorem serveLine_chan_trace (l : Line) (s : State) :
    (serveLine l s).chan = s.chan ∧ (serveLine l s).trace = s.trace := by
  unfold serveLine
  obtain ⟨e, h, _⟩ := installAll_env l.env { timeTo (l.time.getD 0) (dropItem s) with ctl.ctx := l.ctx }
  rw [h]
  exact ⟨rfl, rfl⟩

theorem takeLine_readsOwnRecord {l : Line} {s t : State} (h : takeLine l s = .next t) : ReadsOwnRecord s t := by
  obtain ⟨_, _, e⟩ | ⟨i, _, _, ⟨_, _, e⟩ | ⟨_, _, e⟩ | ⟨_, _, e⟩⟩ := takeLine_cases l s <;> rw [e] at h
  · cases h
  · cases h
  · cases h
    exact .inl (recordsRead_sensorTick s none)
  · obtain ⟨u, hu, rfl⟩ := backToTask_next h
    obtain ⟨hchan, htrace⟩ := serveLine_chan_trace l s
    exact (runLine_readsOwnRecord hu).of_same hchan htrace

theorem step_readsOwnRecord {s t : State} (h : step s = .next t) : ReadsOwnRecord s t := by
  match hs : s.env.script with
  | [] => rw [step_goOn hs] at h; cases h; exact goOn_readsOwnRecord s
  | .pick p :: _ =>
    rw [step_pick hs] at h
    cases h
    exact (runPick_readsOwnRecord p (dropItem s)).of_same rfl rfl
  | .line l :: _ => rw [step_line hs] at h; exact takeLine_readsOwnRecord h
  | .stepEdge n cw :: _ => rw [step_stepEdge hs] at h; exact takeLine_readsOwnRecord h

/-- Settles O59: a step reads at most the record of a set signal, and a sound state's signal means a record (R38). -/
theorem waitReadNeverReturnsNone : Obligations.WaitReadNeverReturnsNone := by
  intro s t h r hinv hstep hhist hr
  have hread : r ∈ recordsRead h := mem_recordsRead hr
  obtain hnone | ⟨havail, hown⟩ := step_readsOwnRecord hstep
  · rw [hhist, recordsRead_append, List.append_right_eq_self] at hnone
    simp [hnone] at hread
  · rw [hhist, recordsRead_append, List.append_cancel_left_eq] at hown
    obtain rfl : r = s.chan.record := by simpa [hown] using hread
    exact hinv.avail_record.mp havail

/-! ### The two host operations, and their independence -/

/-- EV_POP from a task (R252). -/
theorem exec_evPop {s : State} (hc : s.ctl.ctx = .task) : exec .evPop s = .next (pop s) := taskOnly_task hc

/-- EV_WAIT_READ from a task, with the signal set (R254). -/
theorem exec_evWaitRead_avail {s : State} (hc : s.ctl.ctx = .task) (ha : s.chan.avail = true) :
    exec .evWaitRead s = .next (takeRecord s) :=
  (taskOnly_task hc).trans (by rw [if_pos ha])

/-- EV_PUSH is the push, from any context (R251, R256). -/
theorem exec_evPush (e : PushEvent) (s : State) : exec (.evPush e) s = .next (push e s) :=
  congrArg _ (inHandler_push e s)

/-- The push of an event that makes a record (R251, R253). -/
theorem push_record {e : PushEvent} {r : Record} {s : State} (hr : recordOf s.cfg.lastevOnUp e = some r) :
    push e s =
      { s with
        chan := { slot := slotOf e, record := r, avail := true }
        trace.history := s.trace.history ++ [.push e] } := by
  obtain ⟨r', hr', h⟩ | ⟨hnone, _⟩ := push_cases e s
  · cases hr.symm.trans hr'
    exact h
  · simp [hr] at hnone

/-- Settles O55: EV_POP is the pop, which writes None over None where the slot is empty. -/
theorem popReadsAndEmptiesSlot : Obligations.PopReadsAndEmptiesSlot :=
  fun _ hc => ⟨exec_evPop hc, exec_evPop hc⟩

/-- Settles O58: the push fills both paths, and each read leaves the other's registers. -/
theorem pollAndWaitPathsAreIndependent : Obligations.PollAndWaitPathsAreIndependent := by
  intro s s1 e r hc hr hpush
  rw [exec_evPush, push_record hr] at hpush
  cases hpush
  exact ⟨⟨_, _, exec_evPop hc, exec_evWaitRead_avail hc rfl, by simp [takeRecord, pop]⟩,
    ⟨_, _, exec_evWaitRead_avail hc rfl, exec_evPop hc, by simp [takeRecord, pop]⟩⟩

end Sys2Proof.Machine

/-! ## Handlers: what they may not issue (O15) -/

namespace Sys2Proof.Machine

section Interrupt
variable {s : State} (hc : s.ctl.ctx = .interrupt)
include hc

/-- The command code of a write, at any pair, drives the bus (R101, log 15). -/
theorem exec_commandRow_interrupt (p : Fin 9) : exec (commandRow p) s = .refused .busOperationFromHandler := by
  obtain ⟨_, hexec, _⟩ := exec_commandRow p s
  exact hexec.trans (busStep_interrupt hc)

/-- A result code ends a bus operation, which no handler runs (R291, R311, log 11). -/
theorem exec_resultCode_interrupt {i : Instr}
    (hi : i ∈ [Instr.errOK, .errTimeout, .errChecksumMismatch, .errRangeError]) :
    exec i s = .refused .busOperationFromHandler := by
  simp only [List.mem_cons, List.not_mem_nil, or_false] at hi
  rcases hi with rfl | rfl | rfl | rfl <;> exact taskOnly_interrupt hc

/-- An event or record code is what EV_POP or EV_WAIT_READ returns, and no handler issues these (R266, R311, log 11). -/
theorem exec_channelCode_interrupt {i : Instr}
    (hi : i ∈ [Instr.evNone, .evRotateCW, .evRotateCCW, .evButtonDown, .evButtonUp, .lrecNone, .lrecRotPlus,
      .lrecRotMinus, .lrecBtn]) : exec i s = .refused .hostOperationFromHandler := by
  simp only [List.mem_cons, List.not_mem_nil, or_false] at hi
  rcases hi with rfl | rfl | rfl | rfl | rfl | rfl | rfl | rfl | rfl <;> exact taskOnly_interrupt hc

end Interrupt

/-- Settles O15: each is a step of a bus operation or a host operation, and both are for tasks only. -/
theorem handlerOperationsRefused : Obligations.HandlerOperationsRefused := by
  intro s hc
  have bus (o) : taskOnly .busOperationFromHandler s o = .refused .busOperationFromHandler := taskOnly_interrupt hc
  have host (o) : taskOnly .hostOperationFromHandler s o = .refused .hostOperationFromHandler := taskOnly_interrupt hc
  exact ⟨bus _, bus _, fun _ => bus _, host _, host _, fun _ _ => host _, host _,
    fun _ => bus _, bus _, fun _ => bus _, bus _, fun _ _ => bus _, bus _, bus _,
    exec_commandRow_interrupt hc, bus _, bus _,
    fun j b => (exec_rdataRow j b s).trans (bus _), fun n b => (exec_sframeRow n b s).trans (bus _),
    fun _ => exec_resultCode_interrupt hc, fun _ => exec_channelCode_interrupt hc⟩

end Sys2Proof.Machine

/-! ## The result code of a unit outside the block (O6) -/

namespace Sys2Proof.Machine

/-- Settles O6: the code's arm of `exec` is the refusal itself, which looks at nothing of the state (R295, U7). -/
theorem transportErrorIsRefused : Obligations.TransportErrorIsRefused := fun s =>
  calc exec .errTransportError s
    _ = execErrTransportError s := rfl
    _ = .refused .transportErrorOutsideBlock := rfl

end Sys2Proof.Machine

/-! ## What each operation leaves as it was (O13, O14) -/

namespace Sys2Proof.Machine

/-! ### Parts written, and parts left -/

/-- From `s` to `t` no part but those of `ps` has changed (R53). -/
def WritesOnly (ps : List Part) (s t : State) : Prop := ∀ p, p ∉ ps → p.same s t

theorem Part.same_refl (p : Part) (s : State) : p.same s s := by
  cases p <;> simp [Part.same]

theorem Part.same_trans {p : Part} {s t u : State} (h : p.same s t) (h' : p.same t u) : p.same s u := by
  cases p <;> simp_all [Part.same]

section WritesOnly

variable {ps qs : List Part} {s t u : State}

theorem WritesOnly.refl (ps : List Part) (s : State) : WritesOnly ps s s := fun p _ => p.same_refl s

theorem WritesOnly.trans (h : WritesOnly ps s t) (h' : WritesOnly ps t u) : WritesOnly ps s u :=
  fun p hp => Part.same_trans (h p hp) (h' p hp)

/-- A longer list claims less. -/
theorem WritesOnly.mono (h : WritesOnly ps s t) (hsub : ps ⊆ qs) : WritesOnly qs s t :=
  fun p hp => h p fun hmem => hp (hsub hmem)

theorem writesOnly_ite {c : Prop} [Decidable c] (ht : c → WritesOnly ps s t) (hu : ¬ c → WritesOnly ps s u) :
    WritesOnly ps s (if c then t else u) := by
  split
  next h => exact ht h
  next h => exact hu h

theorem writesOnly_inPlace {here : Bool} {f : State → State} (hf : here = true → WritesOnly ps s (f s)) :
    WritesOnly ps s (inPlace here f s) :=
  writesOnly_ite hf fun _ => .refl ps s

end WritesOnly

/-! ### Whole units, from the parts that were not written -/

section Units

variable {ps : List Part} {s t : State} (h : WritesOnly ps s t)
include h

theorem WritesOnly.sensor_eq (hps : ∀ p ∈ [Part.sSeq, .frame, .sres, .serr], p ∉ ps) : t.sensor = s.sensor := by
  have hseq := h .sSeq (hps _ (by decide))
  have hframe := h .frame (hps _ (by decide))
  have hsres := h .sres (hps _ (by decide))
  have hserr := h .serr (hps _ (by decide))
  cases ht : t.sensor
  cases hs : s.sensor
  simp_all [Part.same]

theorem WritesOnly.rtc_eq (hps : ∀ p ∈ [Part.cSeq, .cbuf, .cshift, .cres, .cerr, .wbuf], p ∉ ps) : t.rtc = s.rtc := by
  have hseq := h .cSeq (hps _ (by decide))
  have hcbuf := h .cbuf (hps _ (by decide))
  have hshift := h .cshift (hps _ (by decide))
  have hcres := h .cres (hps _ (by decide))
  have hcerr := h .cerr (hps _ (by decide))
  have hwbuf := h .wbuf (hps _ (by decide))
  cases ht : t.rtc
  cases hs : s.rtc
  simp_all [Part.same]

theorem WritesOnly.quad_eq (hps : ∀ p ∈ [Part.qPrev, .qAcc, .qLast, .rotEn], p ∉ ps) : t.quad = s.quad := by
  have hprev := h .qPrev (hps _ (by decide))
  have hacc := h .qAcc (hps _ (by decide))
  have hlast := h .qLast (hps _ (by decide))
  have hen := h .rotEn (hps _ (by decide))
  cases ht : t.quad
  cases hs : s.quad
  simp_all [Part.same]

theorem WritesOnly.button_eq (hps : ∀ p ∈ [Part.latch, .bLast], p ∉ ps) : t.button = s.button := by
  have hlatch := h .latch (hps _ (by decide))
  have hlast := h .bLast (hps _ (by decide))
  cases ht : t.button
  cases hs : s.button
  simp_all [Part.same]

theorem WritesOnly.chan_eq (hps : ∀ p ∈ [Part.slot, .record], p ∉ ps) : t.chan = s.chan := by
  have hslot := h .slot (hps _ (by decide))
  have hrecord := h .record (hps _ (by decide))
  cases ht : t.chan
  cases hs : s.chan
  simp_all [Part.same]

end Units

/-! ### The shared operations -/

section Operations

variable (s : State)

theorem delay_writesOnly (n : Nat) : WritesOnly [.time] s (delay n s) := by
  intro p hp
  cases p <;> simp_all [Part.same]

theorem recordEvent_writesOnly (e : Event) : WritesOnly [.history] s (recordEvent e s) := by
  intro p hp
  cases p <;> simp_all [Part.same, recordEvent]

theorem releaseLock_writesOnly (e : Engine) : WritesOnly [.lock] s (releaseLock e s) := by
  rw [releaseLock_eq]
  intro p hp
  cases p <;> simp_all [Part.same]

theorem enqueue_writesOnly (r : Request) : WritesOnly [.waiting] s (enqueue r s) := by
  intro p hp
  cases p <;> simp_all [Part.same, enqueue]

/-! ### The event channel, the button and the decoder -/

theorem push_writesOnly (e : PushEvent) : WritesOnly [.slot, .record, .history] s (push e s) := by
  obtain ⟨r, _, h⟩ | ⟨_, h⟩ := push_cases e s <;> rw [h] <;> intro p hp
  · cases p <;> simp_all [Part.same]
  · cases p <;> simp_all [Part.same]

theorem pop_writesOnly : WritesOnly [.slot, .history] s (pop s) := by
  intro p hp
  cases p <;> simp_all [Part.same, pop, recordEvent, setSlot]

theorem takeRecord_writesOnly : WritesOnly [.record, .history] s (takeRecord s) := by
  intro p hp
  cases p <;> simp_all [Part.same, takeRecord, recordEvent, setRecord]

theorem blockReader_writesOnly : WritesOnly [.readers] s (blockReader s) := by
  intro p hp
  cases p <;> simp_all [Part.same, blockReader]

theorem buttonLatch_writesOnly (b : ButtonRegs) : WritesOnly [.latch, .bLast] s { s with button := b } := by
  intro p hp
  cases p <;> simp_all [Part.same]

theorem buttonPin_writesOnly (l : Bool) : WritesOnly [.btnPin] s { s with pins.btn := l } := by
  intro p hp
  cases p <;> simp_all [Part.same]

/-- A button edge, held, ignored or taken (R53, R231, R304). -/
theorem buttonEdge_writesOnly (l : Bool) :
    WritesOnly [.latch, .bLast, .pend, .btnPin, .slot, .record, .history] s (buttonEdge l s) := by
  have taken (e : PushEvent) (b : ButtonRegs) :
      WritesOnly [.latch, .bLast, .pend, .btnPin, .slot, .record, .history] s
        { push e { s with button := b } with pins.btn := l } :=
    .trans ((buttonLatch_writesOnly s b).mono (by decide)) <|
      .trans ((push_writesOnly _ e).mono (by decide)) ((buttonPin_writesOnly _ l).mono (by decide))
  have ignored := (buttonPin_writesOnly s l).mono
    (qs := [.latch, .bLast, .pend, .btnPin, .slot, .record, .history]) (by decide)
  obtain ⟨_, h⟩ | ⟨_, _, h⟩ | ⟨_, _, h⟩ := buttonEdge_cases l s <;> rw [h]
  · intro p hp
    cases p <;> simp_all [Part.same]
  · obtain hp | ⟨_, _, hp⟩ := pressButton_cases s <;> rw [hp]
    · exact ignored
    · exact taken _ _
  · obtain ⟨_, hr⟩ | ⟨_, hr⟩ := releaseButton_cases s <;> rw [hr]
    · exact ignored
    · exact taken _ _

theorem encoderPins_writesOnly (a b : Bool) : WritesOnly [.encPins] s (encoderPins a b s) := by
  intro p hp
  cases p <;> simp_all [Part.same]

theorem holdEncoder_writesOnly (a b : Bool) : WritesOnly [.pend] s (holdEncoder a b s) := by
  intro p hp
  cases p <;> simp_all [Part.same, holdEncoder]

theorem setAcc_writesOnly (v : Int) : WritesOnly [.qAcc] s (setAcc v s) := by
  intro p hp
  cases p <;> simp_all [Part.same, setAcc]

theorem recordEdge_writesOnly (new : RawState) : WritesOnly [.qPrev, .qLast] s (recordEdge new s) := by
  intro p hp
  cases p <;> simp_all [Part.same, recordEdge]

theorem accumulate_writesOnly (d : Int) : WritesOnly [.qAcc, .slot, .record, .history] s (accumulate d s) := by
  have pushed (e : PushEvent) : WritesOnly [.qAcc, .slot, .record, .history] s (setAcc 0 (push e s)) :=
    .trans ((push_writesOnly s e).mono (by decide)) ((setAcc_writesOnly _ 0).mono (by decide))
  obtain ⟨_, h⟩ | ⟨_, _, h⟩ | ⟨_, _, h⟩ := accumulate_cases d s <;> rw [h]
  · exact pushed _
  · exact pushed _
  · exact (setAcc_writesOnly s _).mono (by decide)

theorem acceptEdge_writesOnly (new : RawState) :
    WritesOnly [.qPrev, .qAcc, .qLast, .slot, .record, .history] s (acceptEdge new s) := by
  have recorded := (recordEdge_writesOnly s new).mono
    (qs := [.qPrev, .qAcc, .qLast, .slot, .record, .history]) (by decide)
  by_cases hd : transitionStep s.cfg.dirSwap s.quad.prev new = 0
  · rw [acceptEdge_invalid hd]
    exact recorded
  · rw [acceptEdge_valid hd]
    exact recorded.trans ((accumulate_writesOnly _ _).mono (by decide))

/-- An encoder edge, lost, held or accepted (R53, R201, R304). -/
theorem encoderEdge_writesOnly (a b : Bool) :
    WritesOnly [.qPrev, .qAcc, .qLast, .pend, .encPins, .slot, .record, .history] s (encoderEdge a b s) := by
  have pins (u : State) : WritesOnly [.qPrev, .qAcc, .qLast, .pend, .encPins, .slot, .record, .history] u
      (encoderPins a b u) := (encoderPins_writesOnly u a b).mono (by decide)
  obtain ⟨_, h⟩ | ⟨_, _, h⟩ | ⟨_, _, _, h⟩ | ⟨_, _, _, h⟩ := encoderEdge_cases a b s <;> rw [h]
  · exact pins s
  · exact .trans ((holdEncoder_writesOnly s a b).mono (by decide)) (pins _)
  · exact pins s
  · exact .trans ((acceptEdge_writesOnly s _).mono (by decide)) (pins _)

/-! ### The sensor engine -/

theorem waitLevel_writesOnly (v : Bool) : WritesOnly [.time, .aux] s (waitLevel v s) := by
  intro p hp
  cases p <;> simp_all [Part.same, waitLevel]

theorem sampleLine_writesOnly : WritesOnly [.time, .aux] s (sampleLine s) := by
  intro p hp
  cases p <;> simp_all [Part.same, sampleLine]

theorem raiseSensor_writesOnly (e : ErrCode) (k : Nat) :
    WritesOnly [.sSeq, .sres, .serr, .lock, .mask, .sdata, .sensorIn, .aux] s (raiseSensor e k s) := by
  rw [raiseSensor_eq]
  intro p hp
  cases p <;> simp_all [Part.same]

theorem finishSensor_writesOnly :
    WritesOnly [.sSeq, .sres, .serr, .lock, .mask, .sdata, .sensorIn] s (finishSensor s) := by
  rw [finishSensor_eq]
  intro p hp
  cases p <;> simp_all [Part.same]

/-- The end of a wait step that times out (R292, R296). -/
theorem raiseTimeout_writesOnly (v : Bool) (k : Nat) :
    WritesOnly [.sSeq, .sres, .serr, .lock, .mask, .sdata, .time, .sensorIn, .aux, .history] s
      (raiseSensor .timeout k (recordEvent (.sensorTimeout k) (waitLevel v s))) :=
  .trans ((waitLevel_writesOnly s v).mono (by decide)) <|
    .trans ((recordEvent_writesOnly _ _).mono (by decide)) ((raiseSensor_writesOnly _ _ _).mono (by decide))

/-- All that the sensor engine writes in a read (R53). -/
def sensorParts : List Part :=
  [.sSeq, .frame, .sres, .serr, .lock, .mask, .sdata, .time, .sensorIn, .aux, .history]

theorem sensorTo_writesOnly (q : SSeq) : WritesOnly [.sSeq] s (sensorTo q s) := by
  intro p hp
  cases p <;> simp_all [Part.same]

theorem waitThen_writesOnly (v : Bool) {onward : State → State} (ho : ∀ u, WritesOnly sensorParts u (onward u)) :
    WritesOnly sensorParts s (waitThen v onward s) := by
  obtain ⟨_, h⟩ | ⟨_, h⟩ := waitThen_cases v onward s <;> rw [h]
  · exact .trans ((waitLevel_writesOnly s v).mono (by decide)) (ho _)
  · exact (raiseTimeout_writesOnly s v _).mono (by decide)

theorem afterBit_writesOnly (i : Fin 40) : WritesOnly [.sSeq, .mask, .history] s (afterBit i s) := by
  unfold afterBit
  split
  · exact (sensorTo_writesOnly s _).mono (by decide)
  · intro p hp
    cases p <;> simp_all [Part.same]

theorem sampleStore_writesOnly (i : Fin 40) : WritesOnly [.sSeq, .frame, .time, .aux] s (sampleStore i s) := by
  refine .trans ((sampleLine_writesOnly s).mono (by decide)) fun p hp => ?_
  cases p <;> simp_all [Part.same, sampleStore]

theorem sensorTick_writesOnly (want : Option Nat) : WritesOnly sensorParts s (sensorTick want s) := by
  unfold sensorTick
  cases s.sensor.seq with
  | idle => exact .refl _ s
  | wake | release =>
    intro p hp
    cases p <;> simp_all [Part.same, sensorParts]
  | hs1 | hs2 | bitHi i => exact waitThen_writesOnly s _ fun u => (sensorTo_writesOnly u _).mono (by decide)
  | hs3 =>
    refine waitThen_writesOnly s _ fun u p hp => ?_
    cases p <;> simp_all [Part.same, sensorParts]
  | bitSample i => exact (sampleStore_writesOnly s i).mono (by decide)
  | bitLo i => exact waitThen_writesOnly s _ fun u => (afterBit_writesOnly u i).mono (by decide)
  | check =>
    exact writesOnly_ite (fun _ => (finishSensor_writesOnly s).mono (by decide))
      fun _ => (raiseSensor_writesOnly s _ _).mono (by decide)

theorem runSensor_writesOnly (n : Nat) : WritesOnly sensorParts s (runSensor n s) := by
  induction n generalizing s with
  | zero => exact .refl _ s
  | succ n ih => exact writesOnly_ite (fun _ => .refl _ s) fun _ => (sensorTick_writesOnly s none).trans (ih _)

theorem startSensor_writesOnly : WritesOnly sensorParts s (startSensor s) := by
  intro p hp
  cases p <;> simp_all [Part.same, sensorParts, startSensor]

/-- A frame byte met in its place: FRAME takes its bits, and the last ends the critical section (R91, R131). -/
theorem frameByte_writesOnly (n : Fin 5) (b : Byte) : WritesOnly (partsWritten (sframeRow n b)) s (frameByte n b s) := by
  by_cases hs : s.sensor.seq = .bitHi ⟨8 * n.val, by omega⟩
  · obtain ⟨t, a, e⟩ := frameByte_due b hs
    rw [e]
    by_cases h4 : n.val < 4
    · rw [afterBit_byte s h4]
      have hps : [.sSeq, .frame, .time, .aux] ⊆ partsWritten (sframeRow n b) := by
        match n with
        | 0 | 1 | 2 | 3 | 4 => simp [partsWritten, sframeRow]
      refine WritesOnly.mono (fun p hp => ?_) hps
      cases p <;> simp_all [Part.same, inTransfer, withAnswers]
    · obtain rfl : n = 4 := by omega
      intro p hp
      cases p <;> simp_all [Part.same, partsWritten, sframeRow, afterBit, inTransfer, withAnswers]
  · have hout : frameByte n b s = s := by
      unfold frameByte
      split
      next i hi => exact if_neg fun h => hs (hi.trans (congrArg _ (Fin.ext h)))
      next => rfl
    rw [hout]
    exact .refl _ s

/-! ### The RTC engine -/

/-- All that the RTC engine writes in its micro-steps (R53). -/
def rtcParts : List Part :=
  [.cSeq, .cbuf, .cshift, .cres, .cerr, .lock, .rce, .rclk, .rio, .time, .rioIn, .aux, .history, .rioLog]

theorem bitAct_writesOnly (k : ByteKind) (q : BitPhase) : WritesOnly rtcParts s (bitAct k q s) := by
  intro p hp
  cases q <;> cases p <;> simp_all [Part.same, rtcParts, bitAct]

theorem rtcTo_writesOnly (q : CSeq) (ph : CPhase) : WritesOnly [.cSeq] s (rtcTo q ph s) := by
  intro p hp
  cases p <;> simp_all [Part.same]

theorem phaseTo_writesOnly (ph : CPhase) : WritesOnly [.cSeq] s (phaseTo ph s) := by
  intro p hp
  cases p <;> simp_all [Part.same]

/-- Entering a position or a micro-step after an operation of the engine. -/
theorem WritesOnly.rtcTo {s t : State} (h : WritesOnly rtcParts s t) (q : CSeq) (ph : CPhase) :
    WritesOnly rtcParts s (rtcTo q ph t) :=
  h.trans ((rtcTo_writesOnly t q ph).mono (by decide))

theorem WritesOnly.phaseTo {s t : State} (h : WritesOnly rtcParts s t) (ph : CPhase) :
    WritesOnly rtcParts s (phaseTo ph t) :=
  h.trans ((phaseTo_writesOnly t ph).mono (by decide))

theorem setRce_writesOnly (v : Bool) : WritesOnly rtcParts s (setRce v s) := by
  intro p hp
  cases p <;> simp_all [Part.same, rtcParts]

theorem driveRio_writesOnly (d : Drive) : WritesOnly rtcParts s (driveRio d s) := by
  intro p hp
  cases p <;> simp_all [Part.same, rtcParts]

theorem storeByte_writesOnly (j : Fin 8) : WritesOnly rtcParts s (storeByte j s) := by
  intro p hp
  cases p <;> simp_all [Part.same, rtcParts]

theorem afterCommand_writesOnly : WritesOnly rtcParts s (afterCommand s) := by
  unfold afterCommand
  split
  · exact (WritesOnly.refl _ s).rtcTo _ _
  · exact (WritesOnly.refl _ s).phaseTo _

theorem afterData_writesOnly : WritesOnly rtcParts s (afterData s) := by
  unfold afterData
  repeat' split
  · exact (storeByte_writesOnly s _).rtcTo _ _
  · exact (storeByte_writesOnly s _).phaseTo _
  · exact (WritesOnly.refl _ s).phaseTo _

theorem byteTick_writesOnly (k : ByteKind) (put : BitPhase → CPhase) {done : State → State}
    (hd : ∀ u, WritesOnly rtcParts u (done u)) (q : BitPhase) : WritesOnly rtcParts s (byteTick k put done q s) := by
  unfold byteTick
  split
  · exact (bitAct_writesOnly s k q).phaseTo _
  · exact (bitAct_writesOnly s k q).trans (hd _)

theorem closeTick_writesOnly : WritesOnly rtcParts s (closeTick s) := by
  unfold closeTick
  split <;>
    exact ((setRce_writesOnly s _).trans ((recordEvent_writesOnly _ _).mono (by decide))).phaseTo _

theorem settleTick_writesOnly : WritesOnly rtcParts s (settleTick s) := by
  unfold settleTick
  repeat' split
  · exact (driveRio_writesOnly s _).rtcTo _ _
  · exact (driveRio_writesOnly s _).phaseTo _
  · exact (driveRio_writesOnly s _).phaseTo _

/-- The end of WRITE_CLOCK: OK, the lock freed (R180). -/
theorem finishWrite_writesOnly : WritesOnly [.cSeq, .cerr, .lock] s (finishWrite s) := by
  rw [finishWrite, releaseLock_eq]
  intro p hp
  cases p <;> simp_all [Part.same]

theorem finishTick_writesOnly : WritesOnly rtcParts s (finishTick s) := by
  unfold finishTick
  split
  · exact (finishWrite_writesOnly s).mono (by decide)
  · exact ((releaseLock_writesOnly s _).mono (by decide)).rtcTo _ _

theorem windowTick_writesOnly : WritesOnly rtcParts s (windowTick s) := by
  unfold windowTick
  have waited (ph : CPhase) : WritesOnly rtcParts s (phaseTo ph (delay s.cfg.tHalfbit s)) :=
    ((delay_writesOnly s _).mono (by decide)).phaseTo _
  cases s.rtc.phase with
  | rest => exact (setRce_writesOnly s _).phaseTo _
  | lead | trail => exact waited _
  | command q => exact byteTick_writesOnly s _ _ afterCommand_writesOnly q
  | data q => exact byteTick_writesOnly s _ _ afterData_writesOnly q
  | close => exact closeTick_writesOnly s
  | settle => exact settleTick_writesOnly s
  | finish => exact finishTick_writesOnly s

theorem decodeClock_writesOnly : WritesOnly [.cSeq, .cres, .cerr, .aux] s (decodeClock s) := by
  obtain ⟨c, ok, e, n, h⟩ := decodeClock_writes s
  rw [h]
  intro p hp
  cases p <;> simp_all [Part.same]

theorem acquire_writesOnly (e : Engine) : WritesOnly [.lock] s (acquire e s) := by
  intro p hp
  cases p <;> simp_all [Part.same]

theorem rtcTick_writesOnly : WritesOnly rtcParts s (rtcTick s) := by
  unfold rtcTick
  split
  · exact .refl _ s
  · exact (decodeClock_writesOnly s).mono (by decide)
  · exact writesOnly_ite
      (fun _ => ((acquire_writesOnly s _).mono (by decide)).rtcTo _ _) fun _ => .refl _ s
  · exact windowTick_writesOnly s

theorem runRtc_writesOnly (n : Nat) : WritesOnly rtcParts s (runRtc n s) := by
  induction n generalizing s with
  | zero => exact .refl _ s
  | succ n ih => exact writesOnly_ite (fun _ => .refl _ s) fun _ => (rtcTick_writesOnly s).trans (ih _)

theorem displace_writesOnly : WritesOnly [.cSeq, .waiting] s (displace s) := by
  obtain ⟨_, h⟩ | ⟨_, h⟩ := displace_cases s <;> rw [h]
  · intro p hp
    cases p <;> simp_all [Part.same]
  · exact .refl _ s

theorem startRead_writesOnly : WritesOnly [.cSeq, .lock, .waiting] s (startRead s) := by
  refine .trans ((displace_writesOnly s).mono (by decide)) fun p hp => ?_
  cases p <;> simp_all [Part.same, startRead]

end Operations

/-! ### WRITE_CLOCK, whichever way its operand check goes -/

theorem startWrite_inRange {v : ClockValue} (h : inRange v = true) (s : State) :
    startWrite v s = { displace s with rtc.wbuf := v, rtc.seq := .wCheck } :=
  if_pos h

theorem startWrite_outOfRange {v : ClockValue} (h : inRange v = false) (s : State) :
    startWrite v s =
      { displace s with rtc := { (displace s).rtc with wbuf := v, cerr := .rangeError, seq := .idle } } :=
  if_neg (by simp [h])

theorem startWrite_writesOnly (v : ClockValue) (s : State) :
    WritesOnly [.cSeq, .cerr, .wbuf, .waiting] s (startWrite v s) := by
  refine .trans ((displace_writesOnly s).mono (by decide)) ?_
  cases h : inRange v
  · rw [startWrite_outOfRange h]
    intro p hp
    cases p <;> simp_all [Part.same]
  · rw [startWrite_inRange h]
    intro p hp
    cases p <;> simp_all [Part.same]

/-- At `W_CHECK` the engine waits while the lock is held (R70, R180). -/
theorem rtcTick_blocked {s : State} (hs : s.rtc.seq = .wCheck) (hl : s.ctl.lock ≠ .free) : rtcTick s = s := by
  simp only [rtcTick, hs, if_neg hl]

theorem runRtc_blocked {s : State} (hs : s.rtc.seq = .wCheck) (hl : s.ctl.lock ≠ .free) (n : Nat) :
    runRtc n s = s := by
  induction n with
  | zero => rfl
  | succ n ih => rw [runRtc_succ (by rw [hs]; exact CSeq.noConfusion), rtcTick_blocked hs hl, ih]

/-- From the operand check on a write touches neither CBUF, CRES nor the device's answers (R53, R184). -/
theorem runWrite_writesOnly (v : ClockValue) (s : State) :
    WritesOnly (partsWritten (.writeClock v)) s (runRtc writeTicks (startWrite v s)) := by
  refine .trans ((startWrite_writesOnly v s).mono (by simp [partsWritten])) ?_
  cases h : inRange v
  · have hidle : (startWrite v s).rtc.seq = .idle := by rw [startWrite_outOfRange h]
    rw [runRtc_idle hidle]
    exact .refl _ _
  · have hs : (startWrite v s).rtc.seq = .wCheck := by rw [startWrite_inRange h]
    by_cases hl : (startWrite v s).ctl.lock = .free
    · rw [runRtc_write hs hl]
      intro p hp
      cases p <;> simp_all [Part.same, partsWritten]
    · rw [runRtc_blocked hs hl]
      exact .refl _ _

/-! ### The codes of the bytes on the RTC bus -/

/-- A command byte in its place (R165, R166, R167). -/
theorem rtcByte_command_writesOnly {s : State} (hp : s.rtc.phase = .rest)
    (hs : s.rtc.seq = .rCmd ∨ ∃ q, s.rtc.seq = .wPair q) :
    WritesOnly [.cSeq, .cshift, .rce, .rclk, .rio, .time, .rioLog] s (rtcByte s) := by
  obtain hs | ⟨q, hs⟩ := hs
  · rw [rtcByte_rest (rtcHolds_readCommand hs) hp,
      (rtc_burstCommand (s := phaseTo (.command .load) (openWindow s)) hs rfl 4).2, writeByte_openWindow]
    intro p hp
    cases p <;> simp_all [Part.same]
  · rw [rtcByte_rest (rtcHolds_pair hs) hp,
      (rtc_pairCommand (s := phaseTo (.command .load) (openWindow s)) hs rfl 5).2, writeByte_openWindow]
    intro p hp
    cases p <;> simp_all [Part.same]

theorem rtcByte_atCommand_writesOnly {s : State} {p : Fin 9} (h : atCommand p s = true) :
    WritesOnly [.cSeq, .cshift, .rce, .rclk, .rio, .time, .rioLog] s (rtcByte s) := by
  obtain ⟨hs, hp⟩ := (atCommand_iff p s).mp h
  exact rtcByte_command_writesOnly hp (.inr ⟨p, hs⟩)

theorem pairClose_writesOnly (cmd v : Byte) (s : State) :
    WritesOnly [.cshift, .rce, .rclk, .rio, .time, .history, .rioLog] s (pairClose cmd v s) := by
  rw [pairClose_eq]
  intro p hp
  cases p <;> simp_all [Part.same]

/-- The data byte of any pair but the last (R165). -/
theorem rtcByte_pair_writesOnly {s : State} {p : Fin 9} (hs : s.rtc.seq = .wPair p) (hp : s.rtc.phase = .data .load)
    (h : p.val + 1 < 9) :
    WritesOnly [.cSeq, .cshift, .rce, .rclk, .rio, .time, .history, .rioLog] s (rtcByte s) := by
  rw [(rtcByte_pairData hs hp).1 h]
  exact .trans ((pairClose_writesOnly _ _ s).mono (by decide)) ((rtcTo_writesOnly _ _ _).mono (by decide))

theorem atData_iff (p : Fin 9) (s : State) :
    atData p s = true ↔ s.rtc.seq = .wPair p ∧ s.rtc.phase = .data .load := by
  simp only [atData, Bool.and_eq_true, decide_eq_true_eq]

/-- The data byte of the last pair ends WRITE_CLOCK (R165, R180). -/
theorem rtcByte_lastPair_writesOnly {s : State} (h : atData 8 s = true) :
    WritesOnly [.cSeq, .cshift, .cerr, .lock, .rce, .rclk, .rio, .time, .history, .rioLog] s (rtcByte s) := by
  obtain ⟨hs, hp⟩ := (atData_iff 8 s).mp h
  rw [(rtcByte_pairData hs hp).2 rfl]
  exact .trans ((pairClose_writesOnly _ _ s).mono (by decide)) ((finishWrite_writesOnly _).mono (by decide))

/-- A byte of a burst that the device presents as it is read: the bits presented are the bits used up (R164, R166). -/
theorem rtcByte_read_writesOnly {s : State} {j : Fin 8} (hs : s.rtc.seq = .rData j) (hp : s.rtc.phase = .data .load)
    (b : Byte) :
    let t := rtcByte { s with env.rioIn := lsbBits b ++ s.env.rioIn }
    (j.val + 1 < 8 → WritesOnly [.cSeq, .cbuf, .cshift, .rclk, .time, .aux, .rioLog] s t) ∧
    (¬ j.val + 1 < 8 →
      WritesOnly [.cSeq, .cbuf, .cshift, .lock, .rce, .rclk, .time, .aux, .history, .rioLog] s t) := by
  intro t
  obtain ⟨hnext, hlast⟩ := rtcByte_readData (s := { s with env.rioIn := lsbBits b ++ s.env.rioIn }) hs hp
  obtain ⟨v, hread, -⟩ := readByte_eq { s with env.rioIn := lsbBits b ++ s.env.rioIn }
  have hdrop : (lsbBits b ++ s.env.rioIn).drop 8 = s.env.rioIn := rfl
  rw [hread] at hnext hlast
  constructor <;> intro hj p hp
  · simp only [t, hnext hj]
    cases p <;> simp_all [Part.same]
  · simp only [t, hlast hj, releaseLock_eq]
    cases p <;> simp_all [Part.same, closeWindow]

/-- A data code, in a read or in a write, or out of its place (R99). -/
theorem dataByte_writesOnly (j : Fin 8) (b : Byte) (s : State) :
    WritesOnly (partsWritten (rdataRow j b)) s (dataByte j b s) := by
  unfold dataByte
  split
  case isFalse => exact .refl _ s
  next hp =>
    split
    next j' hs =>
      refine writesOnly_ite (fun hj => ?_) fun _ => .refl _ s
      subst hj
      obtain ⟨hnext, hlast⟩ := rtcByte_read_writesOnly hs hp b
      by_cases hj : j'.val + 1 < 8
      · refine (hnext hj).mono ?_
        match j' with
        | 0 | 1 | 2 | 3 | 4 | 5 | 6 | 7 => simp [partsWritten, rdataRow]
      · obtain rfl : j' = 7 := by omega
        exact (hlast hj).mono (by simp [partsWritten, rdataRow])
    next p hs =>
      refine writesOnly_inPlace fun hin => ?_
      simp only [Bool.and_eq_true, decide_eq_true_eq] at hin
      obtain ⟨⟨hpj, hj⟩, -⟩ := hin
      refine (rtcByte_pair_writesOnly hs hp (by omega)).mono ?_
      match j, hj with
      | 0, _ | 1, _ | 2, _ | 3, _ | 4, _ | 5, _ | 6, _ => simp [partsWritten, rdataRow]
    next => exact .refl _ s

/-! ### The micro-operations -/

theorem writeByte_writesOnly (turn : Bool) (b : Byte) (s : State) :
    WritesOnly [.cshift, .rclk, .rio, .time, .rioLog] s (writeByte turn b s) := by
  rw [writeByte_eq]
  intro p hp
  cases p <;> simp_all [Part.same]

theorem readByte_writesOnly (s : State) :
    WritesOnly [.cshift, .rclk, .time, .rioIn, .aux, .rioLog] s (readByte s) := by
  obtain ⟨v, h, -⟩ := readByte_eq s
  rw [h]
  intro p hp
  cases p <;> simp_all [Part.same]

theorem openWindow_writesOnly (s : State) : WritesOnly [.rce, .time] s (openWindow s) := by
  intro p hp
  cases p <;> simp_all [Part.same, openWindow]

theorem closeWindow_writesOnly (s : State) : WritesOnly [.rce, .time] s (closeWindow s) := by
  intro p hp
  cases p <;> simp_all [Part.same, closeWindow]

/-- What the bytes of a burst read write (R164, R166). -/
theorem burstBytes_writesOnly (n j : Nat) (s : State) :
    WritesOnly (partsWritten .burstRead) s (burstBytes n j s) := by
  induction n generalizing j s with
  | zero => exact .refl _ s
  | succ n ih =>
    rw [burstBytes]
    refine .trans ?_ (ih _ _)
    split
    next hj =>
      have hpos : WritesOnly [.cSeq] s { s with rtc.seq := .rData ⟨j, hj⟩ } := by
        intro p hp
        cases p <;> simp_all [Part.same]
      have hstore (u : State) : WritesOnly [.cbuf] u (storeByte ⟨j, hj⟩ u) := by
        intro p hp
        cases p <;> simp_all [Part.same]
      exact .trans (hpos.mono (by decide)) <|
        .trans ((readByte_writesOnly _).mono (by decide)) ((hstore _).mono (by decide))
    next => exact .refl _ s

theorem burstRead_writesOnly (s : State) : WritesOnly (partsWritten .burstRead) s (burstRead s) := by
  have hpos : WritesOnly [.cSeq] (openWindow s) { openWindow s with rtc.seq := .rCmd } := by
    intro p hp
    cases p <;> simp_all [Part.same]
  unfold burstRead
  exact .trans ((openWindow_writesOnly s).mono (by decide)) <| .trans (hpos.mono (by decide)) <|
    .trans ((writeByte_writesOnly _ _ _).mono (by decide)) <| .trans (burstBytes_writesOnly 8 0 _) <|
    .trans ((closeWindow_writesOnly _).mono (by decide)) ((recordEvent_writesOnly _ _).mono (by decide))

/-! ### Instructions -/

theorem taskOnly_writesOnly {ps : List Part} {r : Refusal} {s t u : State} (h : taskOnly r s (.next u) = .next t)
    (hu : WritesOnly ps s u) : WritesOnly ps s t := by
  cases (taskOnly_next h).2
  exact hu

theorem busStep_writesOnly {ps : List Part} {f : State → State} {s t : State} (h : busStep f s = .next t)
    (hf : WritesOnly ps s (f s)) : WritesOnly ps s t :=
  taskOnly_writesOnly h hf

theorem execReadSensor_writesOnly {s t : State} (h : execReadSensor s = .next t) :
    WritesOnly (partsWritten .readSensor) s t :=
  busStep_writesOnly h <| writesOnly_ite
    (fun _ => ((startSensor_writesOnly s).trans (runSensor_writesOnly _ _)).mono (by decide))
    fun _ => (enqueue_writesOnly s _).mono (by decide)

theorem execReadClock_writesOnly {s t : State} (h : execReadClock s = .next t) :
    WritesOnly (partsWritten .readClock) s t :=
  busStep_writesOnly h <| writesOnly_ite
    (fun _ => .trans ((startRead_writesOnly s).mono (by decide)) ((runRtc_writesOnly _ _).mono (by decide)))
    fun _ => (enqueue_writesOnly s _).mono (by decide)

theorem execWriteClock_writesOnly {v : ClockValue} {s t : State} (h : execWriteClock v s = .next t) :
    WritesOnly (partsWritten (.writeClock v)) s t :=
  busStep_writesOnly h <| writesOnly_ite (fun _ => runWrite_writesOnly v s)
    fun _ => (enqueue_writesOnly s _).mono (by simp [partsWritten])

theorem execRtcPair_writesOnly {cmd v : Byte} {s t : State} (h : execRtcPair cmd v s = .next t) :
    WritesOnly (partsWritten (.rtcPair cmd v)) s t := by
  refine busStep_writesOnly h ?_
  rw [pairClose_pairOpen]
  intro p hp
  cases p <;> simp_all [Part.same, partsWritten]

/-- The end that ERR_OK gives an operation: the sensor's, else that of the clock operation at its end (R291). -/
theorem execErrOK_writesOnly {s t : State} (h : execErrOK s = .next t) : WritesOnly (partsWritten .errOK) s t := by
  refine busStep_writesOnly h <| writesOnly_ite (fun hend => ?_) fun _ => writesOnly_inPlace fun hend => ?_
  · obtain ⟨hs, hgood⟩ := hend
    rw [sensorTick_check hs, if_pos hgood]
    exact (finishSensor_writesOnly s).mono (by decide)
  · unfold clockEndsWell at hend
    split at hend
    next hs =>
      obtain ⟨v, hv⟩ := Option.isSome_iff_exists.mp hend
      rw [rtcTick_decode hs, decodeClock_some hv]
      intro p hp
      cases p <;> simp_all [Part.same, partsWritten]
    next p hs =>
      simp only [Bool.and_eq_true, decide_eq_true_eq] at hend
      rw [rtcTick_finish (rtcHolds_pair hs) hend.2, finishTick_pair hs]
      exact (finishWrite_writesOnly s).mono (by decide)
    next => cases hend

theorem execErrTimeout_writesOnly {s t : State} (h : execErrTimeout s = .next t) :
    WritesOnly (partsWritten .errTimeout) s t := by
  refine busStep_writesOnly h <| writesOnly_inPlace fun hout => ?_
  unfold timesOut at hout
  split at hout
  next v hv =>
    obtain ⟨onward, e⟩ := sensorTick_wait hv none
    obtain ⟨hok, _⟩ | ⟨_, e'⟩ := waitThen_cases v onward s
    · simp [waitLevel] at hok
      simp [hok] at hout
    · rw [e, e']
      exact (raiseTimeout_writesOnly s v _).mono (by decide)
  next => cases hout

theorem execErrChecksumMismatch_writesOnly {s t : State} (h : execErrChecksumMismatch s = .next t) :
    WritesOnly (partsWritten .errChecksumMismatch) s t := by
  refine busStep_writesOnly h <| writesOnly_inPlace fun hbad => ?_
  simp only [Bool.and_eq_true, decide_eq_true_eq, Bool.not_eq_true'] at hbad
  obtain ⟨hs, hsum⟩ := hbad
  rw [sensorTick_check hs, if_neg (by simp [hsum])]
  exact raiseSensor_writesOnly s _ _

theorem execErrRangeError_writesOnly {s t : State} (h : execErrRangeError s = .next t) :
    WritesOnly (partsWritten .errRangeError) s t := by
  refine busStep_writesOnly h ?_
  cases hs : s.rtc.seq with
  | rDecode =>
    refine writesOnly_inPlace fun _ => ?_
    rw [rtcTick_decode hs]
    exact decodeClock_writesOnly s
  | wCheck =>
    refine writesOnly_inPlace fun _ p hp => ?_
    cases p <;> simp_all [Part.same, partsWritten, raiseWriteClock]
  | _ => exact .refl _ s

/-- Every instruction writes its row of the table of R53. -/
theorem exec_writesOnly {i : Instr} {s t : State} (h : exec i s = .next t) : WritesOnly (partsWritten i) s t := by
  cases i
  case readSensor => exact execReadSensor_writesOnly h
  case readClock => exact execReadClock_writesOnly h
  case writeClock v => exact execWriteClock_writesOnly h
  case evPop => exact taskOnly_writesOnly h (pop_writesOnly s)
  case evWaitRead =>
    exact taskOnly_writesOnly h <| writesOnly_ite (fun _ => (takeRecord_writesOnly s).mono (by decide))
      fun _ => (blockReader_writesOnly s).mono (by decide)
  case rotEnable a b =>
    refine taskOnly_writesOnly h fun p hp => ?_
    cases p <;> simp_all [Part.same, partsWritten, enableRotary]
  case rotDisable =>
    refine taskOnly_writesOnly h fun p hp => ?_
    cases p <;> simp_all [Part.same, partsWritten]
  case encEdge a b => cases h; exact encoderEdge_writesOnly s a b
  case btnEdge l => cases h; exact buttonEdge_writesOnly s l
  case hostopReserved | errTransportError => cases h
  case waitLevel v => exact busStep_writesOnly h (waitLevel_writesOnly s v)
  case sample => exact busStep_writesOnly h (sampleLine_writesOnly s)
  case rtcWriteByte b => exact busStep_writesOnly h (writeByte_writesOnly false b s)
  case rtcReadByte => exact busStep_writesOnly h (readByte_writesOnly s)
  case rtcPair cmd v => exact execRtcPair_writesOnly h
  case burstRead => exact busStep_writesOnly h (burstRead_writesOnly s)
  case evPush e => cases h; exact (inHandler_push e s).symm ▸ push_writesOnly s e
  case cmdBurstRead =>
    refine busStep_writesOnly h (writesOnly_inPlace fun hin => ?_)
    simp only [Bool.and_eq_true, decide_eq_true_eq] at hin
    exact rtcByte_command_writesOnly hin.2 (.inl hin.1)
  case cmdWrSeconds | cmdWrMinutes | cmdWrHours | cmdWrDay | cmdWrMonth | cmdWrWeekday | cmdWrYear =>
    exact busStep_writesOnly h (writesOnly_inPlace rtcByte_atCommand_writesOnly)
  case cmdWrControl =>
    refine busStep_writesOnly h (writesOnly_inPlace fun hin => ?_)
    exact (Bool.or_eq_true_iff.mp hin).elim rtcByte_atCommand_writesOnly rtcByte_atCommand_writesOnly
  case wpOff =>
    refine busStep_writesOnly h (writesOnly_inPlace fun hin => ?_)
    obtain ⟨hs, hp⟩ := (atData_iff 0 s).mp hin
    exact rtcByte_pair_writesOnly hs hp (by decide)
  case wpOn => exact busStep_writesOnly h (writesOnly_inPlace rtcByte_lastPair_writesOnly)
  case rdataSeconds => exact busStep_writesOnly h (dataByte_writesOnly 0 _ s)
  case rdataMinutes => exact busStep_writesOnly h (dataByte_writesOnly 1 _ s)
  case rdataHours => exact busStep_writesOnly h (dataByte_writesOnly 2 _ s)
  case rdataDay => exact busStep_writesOnly h (dataByte_writesOnly 3 _ s)
  case rdataMonth => exact busStep_writesOnly h (dataByte_writesOnly 4 _ s)
  case rdataWeekday => exact busStep_writesOnly h (dataByte_writesOnly 5 _ s)
  case rdataYear => exact busStep_writesOnly h (dataByte_writesOnly 6 _ s)
  case rdataControl => exact busStep_writesOnly h (dataByte_writesOnly 7 _ s)
  case sframeHumInt b => exact busStep_writesOnly h (frameByte_writesOnly s 0 b)
  case sframeHumFrac b => exact busStep_writesOnly h (frameByte_writesOnly s 1 b)
  case sframeTempInt b => exact busStep_writesOnly h (frameByte_writesOnly s 2 b)
  case sframeTempFrac b => exact busStep_writesOnly h (frameByte_writesOnly s 3 b)
  case sframeChecksum b => exact busStep_writesOnly h (frameByte_writesOnly s 4 b)
  case q_00_00 | q_00_01 | q_00_10 | q_00_11 | q_01_00 | q_01_01 | q_01_10 | q_01_11 | q_10_00 | q_10_01 | q_10_10
      | q_10_11 | q_11_00 | q_11_01 | q_11_10 | q_11_11 =>
    cases h; exact writesOnly_inPlace fun _ => encoderEdge_writesOnly s _ _
  case evNone | evRotateCW | evRotateCCW | evButtonDown | evButtonUp =>
    exact taskOnly_writesOnly h (writesOnly_inPlace fun _ => pop_writesOnly s)
  case lrecNone | lrecRotPlus | lrecRotMinus | lrecBtn =>
    exact taskOnly_writesOnly h (writesOnly_inPlace fun _ => takeRecord_writesOnly s)
  case errOK => exact execErrOK_writesOnly h
  case errTimeout => exact execErrTimeout_writesOnly h
  case errChecksumMismatch => exact execErrChecksumMismatch_writesOnly h
  case errRangeError => exact execErrRangeError_writesOnly h

/-- Settles O13: each instruction's meaning, part by part. -/
theorem operationsWriteOnlyTheirState : Obligations.OperationsWriteOnlyTheirState :=
  fun _ _ _ p h => exec_writesOnly h p

/-- The enable stands in two rows of the table of R53 only (R33). -/
theorem rotEn_not_written {i : Instr} (hen : ∀ a b, i ≠ .rotEnable a b) (hdis : i ≠ .rotDisable) :
    Part.rotEn ∉ partsWritten i := by
  cases i
  case rotEnable a b => exact absurd rfl (hen a b)
  case rotDisable => exact absurd rfl hdis
  all_goals simp [partsWritten]

/-- Settles O14: by O13, as the enable is in no other row. -/
theorem enableWrittenByEnableAndDisableOnly : Obligations.EnableWrittenByEnableAndDisableOnly :=
  fun i _ _ h hen hdis => operationsWriteOnlyTheirState i _ _ .rotEn h (rotEn_not_written hen hdis)

end Sys2Proof.Machine

/-! ## RESET, the event channel, and requests that begin or wait (O8, O12, O16, O35, O54, O56, O57) -/

namespace Sys2Proof.Machine

/-! ### RESET (O12) -/

/-- Settles O12: the reset state is written out register by register, and each of the table's values is the one it has
there. -/
theorem resetValuesAsTabled : Obligations.ResetValuesAsTabled := by
  unfold Obligations.ResetValuesAsTabled
  repeat' apply And.intro
  all_goals rfl

/-! ### EV_PUSH, EV_WAIT_READ, and the codes that are results (O54, O56, O57) -/

section
variable {s : State}

/-- Settles O54: EV_PUSH is the push of each event, as a whole state. -/
theorem pushOverwritesSlotAndRecord : Obligations.PushOverwritesSlotAndRecord := fun s =>
  have ⟨cw, ccw⟩ := push_rotate s
  ⟨(exec_evPush _ s).trans (congrArg _ cw), (exec_evPush _ s).trans (congrArg _ ccw),
    (exec_evPush _ s).trans (congrArg _ (push_buttonDown s)), (exec_evPush _ s).trans (congrArg _ (push_buttonUp s))⟩

/-- Without a record the caller of EV_WAIT_READ blocks (R254). -/
theorem exec_evWaitRead_blocks (hc : s.ctl.ctx = .task) (ha : s.chan.avail = false) :
    exec .evWaitRead s = .next (blockReader s) := by
  refine (taskOnly_task hc).trans ?_
  rw [if_neg (by rw [ha]; exact Bool.false_ne_true)]

/-- A blocked reader that is picked has a step only outside the critical section and with a record to read (R254, R308). -/
theorem runPick_reader (s : State) :
    runPick .reader s =
      if s.ctl.mask = false ∧ s.chan.avail = true ∧ 0 < s.ctl.readers then
        takeRecord { s with ctl.readers := s.ctl.readers - 1 }
      else s := by
  cases hm : s.ctl.mask <;> simp [runPick, mayMove, agentStep, wakeReader, hm]

/-- Settles O56: EV_WAIT_READ with and without a record, and the blocked reader that is picked. -/
theorem waitReadTakesRecordOrBlocks : Obligations.WaitReadTakesRecordOrBlocks := by
  intro s hc
  refine ⟨fun ha => exec_evWaitRead_avail hc ha, fun ha => exec_evWaitRead_blocks hc ha, fun ha => ?_, fun hm => ?_,
    fun hm ha hr => ?_⟩
  · rw [runPick_reader, if_neg (by simp [ha])]
  · rw [runPick_reader, if_neg (by simp [hm])]
  · rw [runPick_reader, if_pos ⟨hm, ha, hr⟩]
    rfl

/-- In its place an event code is the EV_POP that returns it (R252, log 11). -/
theorem popOf_here {e : PendingEvent} (hc : s.ctl.ctx = .task) (h : s.chan.slot = e) : popOf e s = exec .evPop s := by
  rw [exec_evPop hc, popOf, taskOnly_task hc, inPlace, if_pos (decide_eq_true h)]

/-- In its place a record code is the EV_WAIT_READ that returns it (R254, log 11). -/
theorem readOf_here {isIt : Record → Bool} (hc : s.ctl.ctx = .task) (ha : s.chan.avail = true)
    (h : isIt s.chan.record = true) : readOf isIt s = exec .evWaitRead s := by
  rw [exec_evWaitRead_avail hc ha, readOf, taskOnly_task hc, inPlace, if_pos (by rw [ha, h]; rfl)]

/-- Each event code against the event it names (R112). -/
theorem exec_eventCode {q : Instr × PendingEvent}
    (hq : q ∈ [(Instr.evNone, PendingEvent.none), (.evRotateCW, .rotateCW), (.evRotateCCW, .rotateCCW),
      (.evButtonDown, .buttonDown), (.evButtonUp, .buttonUp)]) : exec q.1 s = popOf q.2 s := by
  simp only [List.mem_cons, List.not_mem_nil, or_false] at hq
  obtain rfl | rfl | rfl | rfl | rfl := hq <;> rfl

/-- The records that a record code names (R113). -/
def namesRecord : Instr → Record → Bool
  | .lrecNone, r => decide (r.kind = .none)
  | .lrecRotPlus, r => decide (r = ⟨.rot, false⟩)
  | .lrecRotMinus, r => decide (r = ⟨.rot, true⟩)
  | .lrecBtn, r => decide (r.kind = .btn)
  | _, _ => false

theorem exec_recordCode {q : Instr × Record} (hq : q ∈ recordRows) :
    exec q.1 s = readOf (namesRecord q.1) s ∧ namesRecord q.1 q.2 = true := by
  simp only [recordRows, List.mem_cons, List.not_mem_nil, or_false] at hq
  obtain rfl | rfl | rfl | rfl | rfl | rfl := hq <;> exact ⟨rfl, rfl⟩

/-- Settles O57: each code, in its place, is the operation whose result it is. -/
theorem eventCodesAreResults : Obligations.EventCodesAreResults := by
  intro s hc
  refine ⟨fun q hq hslot => ?_, fun q hq ha hr => ?_, rfl⟩
  · rw [exec_eventCode hq, popOf_here hc hslot, exec_evPop hc, ← hslot]
    exact ⟨rfl, rfl⟩
  · obtain ⟨he, hnames⟩ := exec_recordCode (s := s) hq
    rw [he, readOf_here hc ha (by rw [hr, hnames]), exec_evWaitRead_avail hc ha, ← hr]
    exact ⟨rfl, rfl⟩

end

/-! ### Requests: what begins, and what waits (O8, O16, O35) -/

section
variable {s : State}

theorem displace_idle (h : s.rtc.seq = .idle) : displace s = s := if_neg (by rw [h]; exact CSeq.noConfusion)

theorem displace_waiting (h : s.rtc.seq = .wCheck) :
    displace s = { s with rtc.seq := .idle, ctl.waiting := s.ctl.waiting ++ [.writeClock s.rtc.wbuf] } :=
  if_pos h

theorem rtcFree_iff : rtcFree s = true ↔ s.rtc.seq = .idle ∨ s.rtc.seq = .wCheck := by simp [rtcFree]

theorem rtcReady_iff : rtcReady s = true ↔ s.ctl.lock = .free ∧ (s.rtc.seq = .idle ∨ s.rtc.seq = .wCheck) := by
  simp [rtcReady, rtcFree]

theorem sensorReady_iff : sensorReady s = true ↔ s.ctl.lock = .free ∧ s.sensor.seq = .idle := by simp [sensorReady]

theorem exec_readSensor (hc : s.ctl.ctx = .task) :
    exec .readSensor s =
      .next (if sensorReady s then runSensor sensorTicks (startSensor s) else enqueue .readSensor s) := by
  rw [exec, execReadSensor, busStep_task hc]

theorem exec_readClock (hc : s.ctl.ctx = .task) :
    exec .readClock s = .next (if rtcReady s then runRtc readTicks (startRead s) else enqueue .readClock s) := by
  rw [exec, execReadClock, busStep_task hc]

theorem exec_writeClock (hc : s.ctl.ctx = .task) (v : ClockValue) :
    exec (.writeClock v) s =
      .next (if rtcFree s then runRtc writeTicks (startWrite v s) else enqueue (.writeClock v) s) := by
  rw [exec, execWriteClock, busStep_task hc]

/-- The range of R181, field by field. -/
theorem inRange_iff (v : ClockValue) :
    inRange v = true ↔
      v.second ≤ 59 ∧ v.minute ≤ 59 ∧ v.hour ≤ 23 ∧ 1 ≤ v.day ∧ v.day ≤ 31 ∧ 1 ≤ v.month ∧ v.month ≤ 12 ∧
        1 ≤ v.weekday ∧ v.weekday ≤ 7 ∧ v.year ≤ 99 := by
  simp only [inRange, Bool.and_eq_true, decide_eq_true_iff, and_assoc]

/-- A WRITE_CLOCK out of range ends where it began (R181). -/
theorem runRtc_startWrite_outOfRange {v : ClockValue} (h : inRange v = false) (n : Nat) (s : State) :
    runRtc n (startWrite v s) = startWrite v s :=
  runRtc_idle (by rw [startWrite_outOfRange h])

/-- Settles O35: with the engine idle or at `W_CHECK` the operand check fails before any micro-step. -/
theorem writeClockRejectsOutOfRange : Obligations.WriteClockRejectsOutOfRange := by
  intro s v hc hv
  have hrange : inRange v = false := Bool.eq_false_iff.mpr fun h => hv ((inRange_iff v).mp h)
  constructor <;> intro hs
  · rw [exec_writeClock hc, if_pos (rtcFree_iff.mpr (.inl hs)), runRtc_startWrite_outOfRange hrange,
      startWrite_outOfRange hrange, displace_idle hs, ← hs]
  · rw [exec_writeClock hc, if_pos (rtcFree_iff.mpr (.inr hs)), runRtc_startWrite_outOfRange hrange,
      startWrite_outOfRange hrange, displace_waiting hs]

/-- A request that is granted outside the critical section begins, if it can (R70, R308). -/
theorem runPick_grant {n : Nat} {r : Request} (hw : s.ctl.waiting[n]? = some r) (hm : s.ctl.mask = false) :
    runPick (.grant n) s =
      if requestReady r s then startRequest r { s with ctl.waiting := s.ctl.waiting.eraseIdx n } else s := by
  simp [runPick, mayMove, agentStep, grantRequest, hm, hw]

theorem runPick_grant_ready {n : Nat} {r : Request} (hw : s.ctl.waiting[n]? = some r) (hm : s.ctl.mask = false)
    (hr : requestReady r s = true) :
    runPick (.grant n) s = startRequest r { s with ctl.waiting := s.ctl.waiting.eraseIdx n } := by
  rw [runPick_grant hw hm, if_pos hr]

theorem runPick_grant_notReady {n : Nat} {r : Request} (hw : s.ctl.waiting[n]? = some r)
    (hr : requestReady r s = false) : runPick (.grant n) s = s := by
  cases hm : s.ctl.mask
  · rw [runPick_grant hw hm, if_neg (by rw [hr]; exact Bool.false_ne_true)]
  · exact if_neg (by simp [mayMove, hm])

/-- With the lock held by another, a read of either bus joins the waiting requests (R70, R148). -/
theorem sensorReady_held (h : s.ctl.lock ≠ .free) : sensorReady s = false :=
  Bool.eq_false_iff.mpr fun hr => h (sensorReady_iff.mp hr).1

theorem rtcReady_held (h : s.ctl.lock ≠ .free) : rtcReady s = false :=
  Bool.eq_false_iff.mpr fun hr => h (rtcReady_iff.mp hr).1

/-- A displaced WRITE_CLOCK leaves the state that has it among the requests to begin with (log 13). -/
theorem displace_displace (s : State) : displace (displace s) = displace s := by
  obtain ⟨_, h⟩ | ⟨_, h⟩ := displace_cases s
  · exact displace_idle (by rw [h])
  · rw [h, h]

theorem startRead_displace (s : State) : startRead (displace s) = startRead s := by
  rw [startRead, startRead, displace_displace]

theorem startWrite_displace (v : ClockValue) (s : State) : startWrite v (displace s) = startWrite v s := by
  rw [startWrite, startWrite, displace_displace]

/-- READ_CLOCK called at `W_CHECK` is READ_CLOCK called with the WRITE_CLOCK among the requests (log 13). -/
theorem exec_readClock_displace (hc : s.ctl.ctx = .task) (hl : s.ctl.lock = .free) (hs : s.rtc.seq = .wCheck) :
    exec .readClock s = exec .readClock (displace s) := by
  have hd := displace_waiting hs
  rw [exec_readClock hc, exec_readClock (by rw [hd]; exact hc), startRead_displace,
    if_pos (rtcReady_iff.mpr ⟨hl, .inr hs⟩), if_pos (rtcReady_iff.mpr (by rw [hd]; exact ⟨hl, .inl rfl⟩))]

theorem exec_writeClock_displace (hc : s.ctl.ctx = .task) (hs : s.rtc.seq = .wCheck) (v : ClockValue) :
    exec (.writeClock v) s = exec (.writeClock v) (displace s) := by
  have hd := displace_waiting hs
  rw [exec_writeClock hc, exec_writeClock (by rw [hd]; exact hc), startWrite_displace,
    if_pos (rtcFree_iff.mpr (.inr hs)), if_pos (rtcFree_iff.mpr (by rw [hd]; exact .inl rfl))]

/-- The list of the waiting requests after a request of the RTC engine has begun. -/
theorem displace_eq (hs : s.rtc.seq = .idle ∨ s.rtc.seq = .wCheck) :
    displace s =
      { s with
        rtc.seq := .idle
        ctl.waiting := s.ctl.waiting ++ (if s.rtc.seq = .wCheck then [.writeClock s.rtc.wbuf] else []) } := by
  obtain h | h := hs
  · rw [displace_idle h, if_neg (by rw [h]; exact CSeq.noConfusion), List.append_nil, ← h]
  · rw [displace_waiting h, if_pos h]

/-- A WRITE_CLOCK in range called while the lock is held waits at `W_CHECK` (R180). -/
theorem exec_writeClock_waits {v : ClockValue} (hc : s.ctl.ctx = .task) (hl : s.ctl.lock ≠ .free)
    (hv : inRange v = true) (hs : s.rtc.seq = .idle) :
    exec (.writeClock v) s = .next { s with rtc.wbuf := v, rtc.seq := .wCheck } := by
  rw [exec_writeClock hc, if_pos (rtcFree_iff.mpr (.inl hs)), startWrite_inRange hv, displace_idle hs]
  exact congrArg _ (runRtc_blocked (s := { s with rtc.wbuf := v, rtc.seq := .wCheck }) rfl hl _)

/-- Settles O16: the lock held, the lock free, and the picks that grant a request. -/
theorem busOperationsWaitForTheLock : Obligations.BusOperationsWaitForTheLock := by
  intro s hc displaced
  refine ⟨fun hl => ⟨?_, ?_, fun v hv hs => exec_writeClock_waits hc hl hv hs, fun hs => rtcTick_blocked hs hl, ?_⟩,
    fun hl => ⟨fun hs => ⟨rtcTick_wCheck hs hl, ?_⟩, fun hm n => ⟨fun hw hs => ?_, fun hw hs => ?_⟩⟩,
    fun hs v => ?_, fun hm n v hw hv hs => ?_⟩
  · rw [exec_readSensor hc, sensorReady_held hl]
    rfl
  · rw [exec_readClock hc, rtcReady_held hl]
    rfl
  · intro n hw
    obtain hw | hw := hw
    · exact runPick_grant_notReady hw (sensorReady_held hl)
    · exact runPick_grant_notReady hw (rtcReady_held hl)
  · rw [exec_readClock_displace hc hl hs, displace_waiting hs]
  · rw [runPick_grant_ready hw hm (sensorReady_iff.mpr ⟨hl, hs⟩)]
    rfl
  · rw [runPick_grant_ready hw hm (rtcReady_iff.mpr ⟨hl, hs⟩), startRequest, startRead, displace_eq]
    · rfl
    · exact hs
  · rw [exec_writeClock_displace hc hs, displace_waiting hs]
  · rw [runPick_grant_ready hw hm (rtcFree_iff.mpr hs), startRequest, startWrite_inRange hv, displace_eq]
    exact hs

/-- Each issued request as a whole state, by the lock and the place of its engine (R70, R130, R170, R180). -/
theorem request_readSensor (u : State) :
    request .readSensor u =
      if u.ctl.lock = .free ∧ u.sensor.seq = .idle then
        { u with ctl.lock := .held .sensor, sensor.seq := .wake, pins.sdata := .drive0, aux.sClock := u.time }
      else { u with ctl.waiting := u.ctl.waiting ++ [.readSensor] } := by
  simp only [request, requestReady, sensorReady_iff]
  rfl

theorem request_readClock (u : State) :
    request .readClock u =
      if u.ctl.lock = .free ∧ u.rtc.seq = .idle then
        { u with ctl.lock := .held .rtc, rtc.seq := .rCmd, rtc.phase := .rest }
      else if u.ctl.lock = .free ∧ u.rtc.seq = .wCheck then
        { u with
          ctl.lock := .held .rtc
          ctl.waiting := u.ctl.waiting ++ [.writeClock u.rtc.wbuf]
          rtc.seq := .rCmd
          rtc.phase := .rest }
      else { u with ctl.waiting := u.ctl.waiting ++ [.readClock] } := by
  simp only [request, requestReady, rtcReady_iff, startRequest, startRead]
  by_cases hl : u.ctl.lock = .free
  · by_cases hi : u.rtc.seq = .idle
    · rw [if_pos ⟨hl, .inl hi⟩, if_pos ⟨hl, hi⟩, displace_idle hi]
      rfl
    · by_cases hw : u.rtc.seq = .wCheck
      · rw [if_pos ⟨hl, .inr hw⟩, if_neg (hi ·.2), if_pos ⟨hl, hw⟩, displace_waiting hw]
        rfl
      · rw [if_neg fun h => h.2.elim hi hw, if_neg (hi ·.2), if_neg (hw ·.2)]
        rfl
  · rw [if_neg (hl ·.1), if_neg (hl ·.1), if_neg (hl ·.1)]
    rfl

/-- The engine's registers once the operand is latched and checked (R180, R181). -/
def latchedClock (v : ClockValue) (r : RtcRegs) : RtcRegs :=
  if inRange v then { r with seq := .wCheck, wbuf := v } else { r with seq := .idle, wbuf := v, cerr := .rangeError }

theorem startWrite_eq (v : ClockValue) (u : State) :
    startWrite v u = { displace u with rtc := latchedClock v (displace u).rtc } := by
  cases hv : inRange v
  · rw [startWrite_outOfRange hv, latchedClock, hv]
    rfl
  · rw [startWrite_inRange hv, latchedClock, hv]
    rfl

theorem request_writeClock (v : ClockValue) (u : State) :
    request (.writeClock v) u =
      if u.rtc.seq = .idle then { u with rtc := latchedClock v u.rtc }
      else if u.rtc.seq = .wCheck then
        { u with rtc := latchedClock v u.rtc, ctl.waiting := u.ctl.waiting ++ [.writeClock u.rtc.wbuf] }
      else { u with ctl.waiting := u.ctl.waiting ++ [.writeClock v] } := by
  simp only [request, requestReady, rtcFree_iff, startRequest, startWrite_eq]
  by_cases hi : u.rtc.seq = .idle
  · rw [if_pos (.inl hi), if_pos hi, displace_idle hi]
  · by_cases hw : u.rtc.seq = .wCheck
    · rw [if_pos (.inr hw), if_neg hi, if_pos hw, displace_waiting hw]
      rfl
    · rw [if_neg fun h => h.elim hi hw, if_neg hi, if_neg hw]
      rfl

/-- A request is issued in the context it finds. -/
theorem request_ctx (r : Request) (u : State) : (request r u).ctl.ctx = u.ctl.ctx := by
  cases r with
  | readSensor => rw [request_readSensor]; split <;> rfl
  | readClock =>
    rw [request_readClock]
    split
    next => rfl
    next => split <;> rfl
  | writeClock v =>
    rw [request_writeClock]
    split
    next => rfl
    next => split <;> rfl

/-- A line that issues a bus operation from a task begins it or joins it to the waiting requests (R70, log 8). -/
theorem step_issue {l : Line} {items : List Item} {i : Instr} {r : Request} {rest : List Byte}
    (hline : s.env.script = .line l :: items) (hmode : l.mode = .issue) (hctx : l.ctx = .task)
    (hr : requestOf i = some r) (hn : needsTime i = false) (hd : decode s.cfg l.fmt l.bytes = .ok (i, rest))
    (hb : heldBack l i s = false) : step s = .next (request r (serveLine l s)) := by
  have hu : (serveLine l s).ctl.ctx = .task := by rw [(serveLine_served hline).ctl]; exact hctx
  have hq : (request r (serveLine l s)).ctl.ctx = .task := (request_ctx r _).trans hu
  have hrun : runLine l i (serveLine l s) = issueRequest r (serveLine l s) := by rw [runLine, hmode, hr]
  rw [step_line hline, takeLine_decoded hd (by simp [hn]), hb, if_neg Bool.false_ne_true, hrun, issueRequest,
    busStep_task hu, backToTask, ← hq]

/-- Settles O8: the line is served, and the request is one of the three. -/
theorem issuedBusOperationBegins : Obligations.IssuedBusOperationBegins := by
  intro s l items rest hline hmode hctx
  have hu := serveLine_served hline
  refine ⟨serveLine l s, hu, fun hd hb => ?_, fun hd hb => ?_, fun v hd hb => ?_⟩
  · rw [step_issue hline hmode hctx rfl rfl hd hb, request_readSensor, hu.ctl, hu.sensor]
  · rw [step_issue hline hmode hctx rfl rfl hd hb, request_readClock, hu.ctl, hu.rtc]
  · rw [step_issue hline hmode hctx rfl rfl hd hb, request_writeClock, hu.ctl, hu.rtc]
    rfl

end

end Sys2Proof.Machine

/-! ## The primitive operations of the two buses (O23, O24, O27, O28, O29, O30) -/

namespace Sys2Proof.Machine

section
variable {s : State}

/-! ### Bytes, pairs and the burst on the RTC bus (O27, O28, O29, O30) -/

/-- Settles O27: the byte out, by its bits. -/
theorem writeByteGoesOutLsbFirst : Obligations.WriteByteGoesOutLsbFirst := by
  intro s b hc
  rw [exec, execRtcWriteByte, busStep_task hc, writeByte_eq]
  rfl

/-- While the block does not drive RIO, its levels are those that the device presents, where it presents any (R164). -/
theorem rioAhead_presented (hr : s.pins.rio = .input) {i : Nat} {bit : Bool} (h : s.env.rioIn[i]? = some bit) :
    rioAhead s i = bit := by
  simp only [rioAhead, hr, List.headD_eq_head?_getD, List.head?_drop, h, Option.getD_some]

/-- Settles O28: the byte in, by its bits, each a level of RIO. -/
theorem readByteComesInLsbFirst : Obligations.ReadByteComesInLsbFirst := by
  intro s hc hr
  obtain ⟨v, hread, hbits⟩ := readByte_eq s
  refine ⟨v, ?_, fun i bit hi h => (hbits i hi).trans (rioAhead_presented hr h)⟩
  rw [exec, execRtcReadByte, busStep_task hc, hread]
  rfl

/-- A byte sent leaves the enable as it was (R163). -/
theorem writeByte_rce (turn : Bool) (b : Byte) (s : State) : (writeByte turn b s).pins.rce = s.pins.rce := by
  rw [writeByte_eq]

theorem pairOpen_rce (cmd : Byte) (s : State) : (pairOpen cmd s).pins.rce = true := by
  rw [pairOpen, writeByte_rce]
  rfl

/-- Settles O29: the two halves of a pair, one after the other. -/
theorem pairIsOneWindowOfTwoBytes : Obligations.PairIsOneWindowOfTwoBytes := by
  intro s cmd v hc
  refine ⟨pairOpen_rce cmd s, (writeByte_rce false v _).trans (pairOpen_rce cmd s), ?_⟩
  rw [exec, execRtcPair, busStep_task hc, pairClose_pairOpen]
  rfl

/-- Byte `j` of a burst, taken at once, goes to its place in CBUF, and the rest follow (R166). -/
theorem burstBytes_succ {v : Byte} {j : Fin 8}
    (hread : readByte { s with rtc.seq := .rData j } = byteTaken v { s with rtc.seq := .rData j }) (n : Nat) :
    burstBytes (n + 1) j.val s =
      burstBytes n (j.val + 1) (rtcTo (.rData j) s.rtc.phase (storeByte j (byteTaken v s))) := by
  rw [burstBytes, dif_pos j.isLt, hread]
  rfl

/-- The bytes of a burst from byte `j` on, `k` more than one of them, taken at once: as in their micro-steps, but that the
engine's phase stays (R66, R166). -/
theorem burstBytes_eq (k : Nat) (j : Fin 8) (s : State) (hk : j.val + k = 7) (hr : s.pins.rio = .input) :
    ∃ d : Vector Byte 8,
      burstBytes (k + 1) j.val s = phaseTo s.rtc.phase (afterBytes (d.toList.drop j.val) d s) ∧
      (∀ i : Fin 8, i < j → d[i] = s.rtc.cbuf[i]) ∧
      ∀ (bs : List Byte) (rest : List Bool), bs.length = k + 1 → s.env.rioIn = bs.flatMap lsbBits ++ rest →
        d.toList.drop j.val = bs := by
  obtain ⟨v, hread, hv⟩ := readByte_taken (s := { s with rtc.seq := .rData j }) hr
  have hself : (s.rtc.cbuf.set j.val v)[j.val] = v := Vector.getElem_set_self _
  induction k generalizing j s v with
  | zero =>
    obtain rfl : j = 7 := Fin.ext hk
    have hdrop : (s.rtc.cbuf.set 7 v).toList.drop (7 : Fin 8).val = [v] := by
      rw [toList_drop_eq_cons, List.drop_of_length_le (Nat.le_of_eq Vector.length_toList)]
      exact congrArg (fun b => [b]) hself
    refine ⟨s.rtc.cbuf.set 7 v, ?_, fun i hi => ?_, fun bs rest hlen he => ?_⟩
    · rw [burstBytes_succ hread, hdrop, burstBytes, afterBytes, Vector.getElem_set_self]
      rfl
    · exact Vector.getElem_set_ne _ _ (by omega)
    · obtain ⟨b, rfl⟩ := List.length_eq_one_iff.mp hlen
      rw [hdrop, hv b rest (by simpa using he)]
  | succ k ih =>
    have hlt : j.val + 1 < 8 := by omega
    let t := rtcTo (.rData j) s.rtc.phase (storeByte j (byteTaken v s))
    obtain ⟨v', hread', hv'⟩ := readByte_taken (s := { t with rtc.seq := .rData ⟨j.val + 1, hlt⟩ }) hr
    obtain ⟨d, hd, hkeep, hpresent⟩ :=
      ih ⟨j.val + 1, hlt⟩ t (by simp only; omega) hr v' hread' hv' (Vector.getElem_set_self _)
    have hj : d[j] = v := (hkeep j (Nat.lt_succ_self _)).trans hself
    have hdrop : d.toList.drop j.val = v :: d.toList.drop (j.val + 1) := by rw [toList_drop_eq_cons, hj]
    refine ⟨d, ?_, fun i hi => ?_, fun bs rest hlen he => ?_⟩
    · rw [burstBytes_succ hread, hd, afterBytes_cons, hdrop]
      rfl
    · exact (hkeep i (Nat.lt_succ_of_lt hi)).trans (Vector.getElem_set_ne j.isLt i.isLt (by omega))
    · obtain ⟨b, bs, rfl⟩ := List.exists_cons_of_length_eq_add_one hlen
      rw [List.flatMap_cons, List.append_assoc] at he
      rw [hdrop, hv b _ he, hpresent bs rest (Nat.succ.inj hlen) (congrArg (List.drop 8) he)]

/-- The state where the first byte of BURST_READ is due: the window is open, the command sent, RIO released (R166,
R167). -/
theorem burstCommand_eq (s : State) :
    writeByte true s.cfg.cmdBurstRead { openWindow s with rtc.seq := .rCmd } =
      rtcTo .rCmd s.rtc.phase (afterReadCommand s) := by
  have ht : s.time + s.cfg.tHalfbit + 16 * s.cfg.tHalfbit = s.time + 17 * s.cfg.tHalfbit := by omega
  rw [writeByte_eq, afterReadCommand, ← ht]
  rfl

/-- Settles O30: the window opens, the command, eight bytes, the window closes. -/
theorem burstReadFillsBuffer : Obligations.BurstReadFillsBuffer := by
  intro s hc
  obtain ⟨d, hbytes, -, hpresent⟩ := burstBytes_eq 7 0 (rtcTo .rCmd s.rtc.phase (afterReadCommand s)) rfl rfl
  have ht : s.time + 17 * s.cfg.tHalfbit + 16 * 8 * s.cfg.tHalfbit + s.cfg.tHalfbit =
      s.time + 146 * s.cfg.tHalfbit := by omega
  refine ⟨d, ?_, fun bytes rest he => Vector.toList_inj.mp (hpresent bytes.toList rest (by simp) he)⟩
  rw [exec, execBurstRead, busStep_task hc, burstRead, burstCommand_eq]
  rw [show burstBytes 8 0 _ = _ from hbytes, ← ht]
  simp [afterBytes, afterReadCommand, closeWindow, recordEvent, setRce, delay, rtcTo, phaseTo]
  rfl

/-! ### WAIT_LEVEL and SAMPLE (O23, O24) -/

theorem exec_waitLevel (hc : s.ctl.ctx = .task) (v : Bool) :
    exec (.waitLevel v) s =
      .next { s with
        time := max s.time (waitOutcome v s).2
        aux.sClock := (waitOutcome v s).2
        aux.waitOk := (waitOutcome v s).1 } := by
  rw [exec, execWaitLevel, busStep_task hc]
  rfl

/-- On a waveform the first poll that finds the level ends the wait, and the last poll ends it anyway (R140). -/
theorem waitOutcome_found {w : List (Bool × Nat)} {v : Bool} {n : Nat} (ha : sensorAnswer s = .wave w)
    (hn : n ≤ s.cfg.waitMaxIter)
    (hbefore : ∀ m, m < n → sdataLevel s.pins.sdata w (s.aux.sClock + m * s.cfg.tPoll - s.aux.sHs1) ≠ v)
    (hat : sdataLevel s.pins.sdata w (s.aux.sClock + n * s.cfg.tPoll - s.aux.sHs1) = v) :
    waitOutcome v s = (true, s.aux.sClock + n * s.cfg.tPoll) := by
  have h := pollUntil_some (level := fun t => sdataLevel s.pins.sdata w (t - s.aux.sHs1)) hn hbefore hat
  simp only [waitOutcome, ha, h]

theorem waitOutcome_notFound {w : List (Bool × Nat)} {v : Bool} (ha : sensorAnswer s = .wave w)
    (hnone : ∀ n, n ≤ s.cfg.waitMaxIter → sdataLevel s.pins.sdata w (s.aux.sClock + n * s.cfg.tPoll - s.aux.sHs1) ≠ v) :
    waitOutcome v s = (false, s.aux.sClock + s.cfg.waitMaxIter * s.cfg.tPoll) := by
  have h := pollUntil_none (level := fun t => sdataLevel s.pins.sdata w (t - s.aux.sHs1)) hnone
  simp only [waitOutcome, ha, h]

theorem waitOutcome_frame {f : Vector Byte 5} (ha : sensorAnswer s = .frame f) (v : Bool) :
    waitOutcome v s = (true, s.aux.sClock) := by
  simp only [waitOutcome, ha]

/-- Settles O23: a waveform polled, a frame, and the timeout at a step. -/
theorem waitLevelPollsWithinBudget : Obligations.WaitLevelPollsWithinBudget := by
  intro s v hc
  refine ⟨fun w n ha hn hbefore hat => ?_, fun w ha hnone => ?_, fun f ha => ?_, fun k ha => ?_⟩
  · rw [exec_waitLevel hc, waitOutcome_found ha hn hbefore hat]
  · rw [exec_waitLevel hc, waitOutcome_notFound ha hnone]
  · rw [exec_waitLevel hc, waitOutcome_frame ha]
  · exact ⟨_, exec_waitLevel hc v, waitOutcome_timeoutAt ha v, rfl⟩

theorem exec_sample (hc : s.ctl.ctx = .task) :
    exec .sample s =
      .next { s with
        time := max s.time (s.aux.sClock + s.cfg.tSample)
        aux.sClock := s.aux.sClock + s.cfg.tSample
        aux.sampled := sampleLevel s
        aux.freeCtr := s.aux.freeCtr + 1 } := by
  rw [exec, execSample, busStep_task hc]
  rfl

/-- Settles O24: the level that SAMPLE reads of a waveform, and of a frame. -/
theorem sampleReadsLineAfterDelay : Obligations.SampleReadsLineAfterDelay := by
  intro s hc
  refine ⟨sampleLevel s, exec_sample hc, fun w ha => ?_, fun f i ha hs => ?_⟩
  · simp only [sampleLevel, ha]
  · simp only [sampleLevel, ha, hs, frameBit]

end

end Sys2Proof.Machine

/-! ## READ_SENSOR against a waveform (O18, O19) -/

namespace Sys2Proof.Machine

/-! ### The transfer of R139 from any of its positions -/

section

variable (p : Params) (w : List (Bool × Nat))

/-- A wait of `SensorFrame()`: its timeout, or what follows from the time of its return (R139). -/
def afterWait (v : Bool) (k now : Nat) (onward : Nat → Transfer) : Transfer :=
  match waitOn p w v now with
  | none => .timeoutAt k
  | some t => onward t

/-- FRAME after a wait step: the end of the handshake clears it (R139). -/
def frameAfterWait (q : SSeq) (f : Vector Byte 5) : Vector Byte 5 :=
  match q with
  | .hs3 => Vector.replicate 5 0
  | _ => f

/-- What `SensorFrame()` returns from a position of the sequencer on, reached `now` microseconds after the switch to input
with `f` in FRAME (R131, R139). -/
def transferFrom (q : SSeq) (now : Nat) (f : Vector Byte 5) : Transfer :=
  let bits (now : Nat) := transferBits p w 40 0 now (Vector.replicate 5 0)
  match q with
  | .hs1 =>
    afterWait p w false 1 now fun t => afterWait p w true 2 t fun t => afterWait p w false 3 t bits
  | .hs2 => afterWait p w true 2 now fun t => afterWait p w false 3 t bits
  | .hs3 => afterWait p w false 3 now bits
  | .bitHi i => transferBits p w (40 - i.val) i.val now f
  | .bitSample i =>
    afterWait p w false (5 + 2 * i.val) (now + p.tSample) fun t =>
      transferBits p w (39 - i.val) (i.val + 1) t (storeBit f i (waveLevel w (now + p.tSample)))
  | .bitLo i => afterWait p w false (5 + 2 * i.val) now fun t => transferBits p w (39 - i.val) (i.val + 1) t f
  | _ => .frame f

theorem transfer_eq (f : Vector Byte 5) : transfer p w = transferFrom p w .hs1 0 f := rfl

/-- At a wait position the transfer waits and goes on from the next one (R139). -/
theorem transferFrom_wait {q : SSeq} {v : Bool} {k : Nat} (hv : wantedLevel q = some v) (hk : waitStep q = some k)
    (now : Nat) (f : Vector Byte 5) :
    transferFrom p w q now f =
      afterWait p w v k now fun t => transferFrom p w (nextPlace q) t (frameAfterWait q f) := by
  cases q with
  | idle | wake | release | check | bitSample i => cases hk
  | hs1 | hs2 | hs3 =>
    cases hv
    cases hk
    rfl
  | bitHi i =>
    cases hv
    cases hk
    have hfuel : 40 - i.val = (39 - i.val) + 1 := by omega
    simp only [transferFrom, hfuel, transferBits, nextPlace, afterWait, dif_pos i.isLt]
    rfl
  | bitLo i =>
    cases hv
    cases hk
    by_cases hi : i.val + 1 < 40
    · simp only [transferFrom, nextPlace, dif_pos hi, frameAfterWait, Nat.reduceSubDiff]
    · have hfuel : 39 - i.val = 0 := by omega
      simp only [transferFrom, nextPlace, dif_neg hi, frameAfterWait, hfuel, transferBits]

/-- At a sample position it stores the level of the line (R137, R138). -/
theorem transferFrom_sample (i : Fin 40) (now : Nat) (f : Vector Byte 5) :
    transferFrom p w (.bitSample i) now f =
      transferFrom p w (.bitLo i) (now + p.tSample) (storeBit f i (waveLevel w (now + p.tSample))) := rfl

end

/-! ### The engine follows the transfer -/

/-- The loop of WAIT_LEVEL on a level that is shifted in time (R140). -/
theorem pollUntil_shift (level : Nat → Bool) (v : Bool) (poll fuel h now : Nat) :
    pollUntil (fun t => level (t - h)) v poll fuel (h + now) = (pollUntil level v poll fuel now).map (h + ·) := by
  induction fuel generalizing now with
  | zero =>
    simp only [pollUntil, Nat.add_sub_cancel_left]
    split <;> rfl
  | succ fuel ih =>
    simp only [pollUntil, Nat.add_sub_cancel_left, Nat.add_assoc, ih]
    split <;> rfl

/-- The states of the read of `s` from `HS1` to `CHECK` as a waveform takes it there: a state of the read whose engine
clock is `now` microseconds after the switch to input, with `f` in FRAME (R62, R139). -/
inductive Following (s : State) : SSeq → Nat → Vector Byte 5 → State → Prop
  | critical {q : SSeq} {f : Vector Byte 5} {c t now : Nat} {a : Aux} (hq : inCritical q = true)
      (hbits : ∀ n, bitsReceivedAt q = some n → c = n) (ht : s.time + s.cfg.tWake ≤ t) (hnow : a.sClock = a.sHs1 + now) :
      Following s q now f (inTransfer (inRead s) q f c t a)
  | check {f : Vector Byte 5} {t now : Nat} {a : Aux} (ht : s.time + s.cfg.tWake ≤ t) :
      Following s .check now f (atCheck (inRead s) f t a)

/-- After a bit comes the next one, and `CHECK` after the last (R131, R134). -/
theorem afterBit_following {s : State} (i : Fin 40) (f : Vector Byte 5) {t now : Nat} {a : Aux}
    (ht : s.time + s.cfg.tWake ≤ t) (hnow : a.sClock = a.sHs1 + now) :
    Following s (nextPlace (.bitLo i)) now f (afterBit i (inTransfer (inRead s) (.bitLo i) f (i.val + 1) t a)) := by
  by_cases hi : i.val + 1 < 40
  · rw [afterBit, dif_pos hi, nextPlace, dif_pos hi]
    exact .critical rfl (fun _ => Option.some.inj) ht hnow
  · obtain rfl : i = 39 := by omega
    exact .check ht

/-- A position of the critical section waits for a level or samples one (R134, R139). -/
theorem waits_or_samples {q : SSeq} (hq : inCritical q = true) :
    (∃ v k, wantedLevel q = some v ∧ waitStep q = some k) ∨ ∃ i, q = .bitSample i := by
  cases q with
  | idle | wake | release | check => cases hq
  | hs1 | hs2 | hs3 | bitHi i | bitLo i => exact .inl ⟨_, _, rfl, rfl⟩
  | bitSample i => exact .inr ⟨i, rfl⟩

theorem Following.not_idle {s u : State} {q : SSeq} {now : Nat} {f : Vector Byte 5} (h : Following s q now f u) :
    u.sensor.seq ≠ .idle := by
  cases h with
  | critical hq => rintro rfl; cases hq
  | check ht => exact SSeq.noConfusion

theorem Following.place {s u : State} {q : SSeq} {now : Nat} {f : Vector Byte 5} (h : Following s q now f u) :
    inCritical q = true ∨ q = .check := by
  cases h with
  | critical hq => exact .inl hq
  | check ht => exact .inr rfl

theorem Following.ends_at_check {s u : State} {now : Nat} {f : Vector Byte 5} (h : Following s .check now f u) :
    SensorEnds s (sensorTick none u) (.frame f) := by
  cases h with
  | critical hq => cases hq
  | check ht => exact sensorEnds_check ht f _

section

variable {s : State} {w : List (Bool × Nat)} (ha : sensorAnswer s = .wave w)
include ha

/-- WAIT_LEVEL of the engine is that of the transfer (R140). -/
theorem waitOutcome_following {a : Aux} {now : Nat} (hnow : a.sClock = a.sHs1 + now) (q : SSeq) (f : Vector Byte 5)
    (c t : Nat) (v : Bool) :
    waitOutcome v (inTransfer (inRead s) q f c t a) =
      match waitOn s.cfg w v now with
      | some t => (true, a.sHs1 + t)
      | none => (false, a.sHs1 + now + s.cfg.waitMaxIter * s.cfg.tPoll) := by
  have ha' : sensorAnswer (inTransfer (inRead s) q f c t a) = .wave w := ha
  have hline : (fun t => sdataLevel .input w (t - a.sHs1)) = fun t => waveLevel w (t - a.sHs1) :=
    funext fun _ => rfl
  simp only [waitOutcome, ha']
  simp only [inTransfer, inRead, hline, hnow, pollUntil_shift]
  rw [waitOn]
  cases pollUntil (waveLevel w) v s.cfg.tPoll s.cfg.waitMaxIter now <;> rfl

/-- A wait of the engine is that of the transfer: both go on with the next position, or both end with its timeout (R139,
R140). -/
theorem waitThen_following {q q' : SSeq} {k c t now : Nat} {f f' : Vector Byte 5} {a : Aux} {v : Bool}
    {onward : State → State} (hk : waitStep q = some k) (ht : s.time + s.cfg.tWake ≤ t)
    (hnow : a.sClock = a.sHs1 + now)
    (hon : ∀ t' now' a', s.time + s.cfg.tWake ≤ t' → a'.sClock = a'.sHs1 + now' →
      Following s q' now' f' (onward (inTransfer (inRead s) q f c t' a'))) :
    (∃ now', waitOn s.cfg w v now = some now' ∧
        Following s q' now' f' (waitThen v onward (inTransfer (inRead s) q f c t a))) ∨
      waitOn s.cfg w v now = none ∧
        SensorEnds s (waitThen v onward (inTransfer (inRead s) q f c t a)) (.timeoutAt k) := by
  have hout := waitOutcome_following ha hnow q f c t v
  have hlevel : ∀ r, waitOutcome v (inTransfer (inRead s) q f c t a) = r →
      waitLevel v (inTransfer (inRead s) q f c t a) =
        inTransfer (inRead s) q f c (max t r.2) { a with sClock := r.2, waitOk := r.1 } := by
    rintro r rfl
    rfl
  cases hw : waitOn s.cfg w v now with
  | some now' =>
    rw [hw] at hout
    refine .inl ⟨now', rfl, ?_⟩
    rw [waitThen, hlevel _ hout]
    exact hon _ now' _ (Nat.le_trans ht (Nat.le_max_left _ _)) rfl
  | none =>
    rw [hw] at hout
    refine .inr ⟨rfl, ?_⟩
    have hk' : waitStep (inTransfer (inRead s) q f c t a).sensor.seq = some k := hk
    rw [waitThen, hlevel _ hout, hk']
    exact sensorEnds_timeout (Nat.le_trans ht (Nat.le_max_left _ _)) q f c _ k

/-- A micro-step at a wait position, against the transfer there. -/
theorem sensorTick_following_wait {u : State} {q : SSeq} {v : Bool} {k now : Nat} {f : Vector Byte 5}
    (h : Following s q now f u) (hv : wantedLevel q = some v) (hk : waitStep q = some k) :
    (∃ now', waitOn s.cfg w v now = some now' ∧
        Following s (nextPlace q) now' (frameAfterWait q f) (sensorTick none u)) ∨
      waitOn s.cfg w v now = none ∧ SensorEnds s (sensorTick none u) (.timeoutAt k) := by
  cases h with
  | check ht => cases hk
  | @critical q f c t now a hcrit hbits ht hnow =>
    cases q with
    | idle | wake | release | check | bitSample i => cases hk
    | hs1 | hs2 =>
      cases hv
      exact waitThen_following ha hk ht hnow fun _ _ _ ht' hnow' => .critical rfl nofun ht' hnow'
    | hs3 =>
      cases hv
      refine waitThen_following ha hk ht hnow (onward := fun s' =>
        sensorTo (.bitHi 0) { s' with sensor.frame := Vector.replicate 5 0, sensor.bitcnt := 0 })
        fun _ _ _ ht' hnow' => ?_
      exact .critical (q := .bitHi 0) rfl (fun _ => Option.some.inj) ht' hnow'
    | bitHi i =>
      cases hv
      exact waitThen_following ha hk ht hnow fun _ _ _ ht' hnow' => .critical rfl hbits ht' hnow'
    | bitLo i =>
      cases hv
      obtain rfl : c = i.val + 1 := hbits _ rfl
      exact waitThen_following ha hk ht hnow fun _ _ _ ht' hnow' => afterBit_following i f ht' hnow'

/-- A sample: the level of the waveform joins FRAME (R137, R138). -/
theorem sensorTick_following_sample {u : State} {i : Fin 40} {now : Nat} {f : Vector Byte 5}
    (h : Following s (.bitSample i) now f u) :
    Following s (.bitLo i) (now + s.cfg.tSample) (storeBit f i (waveLevel w (now + s.cfg.tSample)))
      (sensorTick none u) := by
  cases h with
  | @critical _ f c t now a hcrit hbits ht hnow =>
    have ha' : sensorAnswer (inTransfer (inRead s) (.bitSample i) f c t a) = .wave w := ha
    have hat : a.sClock + s.cfg.tSample - a.sHs1 = now + s.cfg.tSample := by omega
    have hlevel : sampleLevel (inTransfer (inRead s) (.bitSample i) f c t a) = waveLevel w (now + s.cfg.tSample) := by
      rw [sampleLevel, ha', ← hat]
      rfl
    have htick : sensorTick none (inTransfer (inRead s) (.bitSample i) f c t a) =
        sampleStore i (inTransfer (inRead s) (.bitSample i) f c t a) := rfl
    rw [htick, sampleStore, sampleLine, hlevel]
    exact .critical (q := .bitLo i) (a := { a with
      sClock := a.sClock + s.cfg.tSample, sampled := waveLevel w (now + s.cfg.tSample), freeCtr := a.freeCtr + 1 }) rfl
      (fun _ => Option.some.inj) (Nat.le_trans ht (Nat.le_max_left _ _)) (by simp only; omega)

/-- A read against a waveform ends, from any position of its transfer, as the transfer does (R139). -/
theorem following_ends {u : State} {q : SSeq} {now n : Nat} {f : Vector Byte 5} (h : Following s q now f u)
    (hn : ticksLeft q ≤ n) : SensorEnds s (runSensor n u) (transferFrom s.cfg w q now f) := by
  induction n generalizing q u now f with
  | zero => exact absurd (ticksLeft_pos q) (by omega)
  | succ n ih =>
    rw [runSensor_succ h.not_idle]
    obtain hcrit | rfl := h.place
    · have hleft := ticksLeft_nextPlace hcrit
      obtain ⟨v, k, hv, hk⟩ | ⟨i, rfl⟩ := waits_or_samples hcrit
      · rw [transferFrom_wait _ _ hv hk, afterWait]
        obtain ⟨now', hw, hnext⟩ | ⟨hw, hend⟩ := sensorTick_following_wait ha h hv hk
        · rw [hw]
          exact ih hnext (by omega)
        · rw [hw, runSensor_idle hend.idle]
          exact hend
      · rw [transferFrom_sample]
        exact ih (sensorTick_following_sample ha h) (by simp only [nextPlace] at hleft; omega)
    · have hend := h.ends_at_check
      rw [runSensor_idle hend.idle]
      exact hend

/-- The read of a waveform that enters `HS1` at TIME `t` ends as the transfer of R139 does, whenever the wake pulse ended
(R132, R133, R139). -/
theorem runSensor_atHs1 {t : Nat} (ht : s.time + s.cfg.tWake ≤ t) :
    SensorEnds s (runSensor 124 (atHs1 s t)) (transfer s.cfg w) := by
  rw [transfer_eq s.cfg w s.sensor.frame]
  exact following_ends ha (.critical rfl nofun ht rfl) (Nat.le_refl _)

end

/-- Settles O18: the engine follows the transfer from `HS1` on. -/
theorem sensorReadFollowsWaveform : Obligations.SensorReadFollowsWaveform := fun s _ hc hl hs ha =>
  ⟨_, exec_readSensor_eq hc hl hs, runSensor_atHs1 ha (Nat.le_add_right _ s.cfg.tRel)⟩

/-! ### The frame of a conforming sensor (O19) -/

/-- FRAME after the bits `bs` arrived, from bit `i` on (R138). -/
def storeBits (f : Vector Byte 5) : Nat → List Bool → Vector Byte 5
  | _, [] => f
  | i, b :: bs => storeBits (if h : i < 40 then storeBit f ⟨i, h⟩ b else f) (i + 1) bs

theorem storeBits_cons (f : Vector Byte 5) {i : Nat} (hi : i < 40) (b : Bool) (bs : List Bool) :
    storeBits f i (b :: bs) = storeBits (storeBit f ⟨i, hi⟩ b) (i + 1) bs := by
  rw [storeBits, dif_pos hi]

/-- Eight bits shifted in, most significant first, are the byte, whatever was there (R92, R138). -/
theorem shiftIn_msbBits (v b : Byte) : (msbBits b).foldl shiftIn v = b := by
  refine BitVec.eq_of_getLsbD_eq fun j hj => ?_
  simp only [msbBits, lsbBits, List.reverse_cons, List.reverse_nil, List.nil_append, List.cons_append, List.foldl_cons,
    List.foldl_nil]
  interval_cases j <;> simp [-BitVec.getLsbD_eq_getElem, shiftIn_getLsbD]

/-- Bits of byte `n` are shifted into that byte (R92, R138). -/
theorem storeBits_inByte (n : Fin 5) (bs rest : List Bool) {m : Nat} (hm : m + bs.length ≤ 8) (f : Vector Byte 5) :
    storeBits f (8 * n.val + m) (bs ++ rest) =
      storeBits (f.set n.val (bs.foldl shiftIn f[n.val])) (8 * n.val + (m + bs.length)) rest := by
  induction bs generalizing f m with
  | nil => simp
  | cons b bs ih =>
    rw [List.length_cons] at hm
    rw [List.cons_append, storeBits_cons f (by omega), storeBit_eq_set f n (by omega), Nat.add_assoc,
      ih (by omega), List.length_cons, List.foldl_cons]
    simp only [Vector.getElem_set_self, Vector.set_set, Nat.add_assoc, Nat.add_comm 1]

/-- The bits of a byte, most significant first, fill it (R92). -/
theorem storeBits_byte (n : Fin 5) (b : Byte) (rest : List Bool) (f : Vector Byte 5) :
    storeBits f (8 * n.val) (msbBits b ++ rest) = storeBits (f.set n.val b) (8 * n.val + 8) rest := by
  have h := storeBits_inByte n (msbBits b) rest (m := 0) (Nat.le_refl 8) f
  rwa [shiftIn_msbBits] at h

/-- The bits of the bytes of a frame, in order, are the frame (R68, R92). -/
theorem storeBits_frame (f g : Vector Byte 5) : storeBits g 0 (f.toList.flatMap msbBits) = f := by
  have hset : ((((g.set 0 f[0]).set 1 f[1]).set 2 f[2]).set 3 f[3]).set 4 f[4] = f := by
    refine Vector.ext fun i hi => ?_
    interval_cases i <;> simp
  have hlist : f.toList = [f[0], f[1], f[2], f[3], f[4]] := by
    refine List.ext_getElem Vector.length_toList fun i hi _ => ?_
    rw [Vector.length_toList] at hi
    interval_cases i <;> simp
  rw [hlist]
  simp only [List.flatMap_cons, List.flatMap_nil]
  exact (storeBits_byte 0 _ _ _).trans <| (storeBits_byte 1 _ _ _).trans <| (storeBits_byte 2 _ _ _).trans <|
    (storeBits_byte 3 _ _ _).trans <| (storeBits_byte 4 _ _ _).trans hset

section

variable {p : Params} (hp : BitTiming p) {w rest : List (Bool × Nat)}
include hp

/-- The loop over the bits that remain stores them as they were sent (R136, R139). -/
theorem transferBits_stored {bs : List Bool} {now x i : Nat}
    (hw : WaveFrom w now (bs.flatMap (bitWave p) ++ (false, p.tBitLow) :: rest)) (hx : x < p.tBitLow)
    (hi : i + bs.length ≤ 40) (f : Vector Byte 5) :
    transferBits p w bs.length i (now + x) f = .frame (storeBits f i bs) := by
  induction bs generalizing now x i f with
  | nil => rfl
  | cons b bs ih =>
    rw [List.length_cons] at hi ⊢
    obtain ⟨rest', hrest⟩ := bitWaves_begin_low p bs rest
    rw [List.flatMap_cons, List.append_assoc, hrest] at hw
    obtain ⟨now', x', hw', hx', e⟩ := transferBits_bit hp hw hx (i := i) (by omega) bs.length f
    rw [e, ih (hrest ▸ hw') hx' (by omega), storeBits_cons f (by omega)]

end

/-- Settles O19: the handshake, then the bits of the frame as they were sent. -/
theorem conformingSensorIsDecoded : Obligations.ConformingSensorIsDecoded := by
  intro p lead f hpoll hlead hpos hbudget hlow hlowB hzero hover hnext hone honeB
  have hp : BitTiming p := ⟨hpoll, hlow, hlowB, hzero, hover, hnext, hone, honeB⟩
  obtain ⟨rest, hrest⟩ := bitWaves_begin_low p (f.toList.flatMap msbBits) []
  obtain ⟨now, hw, e⟩ := transfer_handshake (p := p) (lead := lead)
    (rest := (f.toList.flatMap msbBits).flatMap (bitWave p) ++ [(false, p.tBitLow)])
    hp.poll hlead hpos hbudget (by rw [hrest, waveLevel_zero hp.low_pos])
  have hbits := transferBits_stored hp (x := 0) hw hp.low_pos (i := 0) (by rw [length_frameBits]) (Vector.replicate 5 0)
  rw [length_frameBits, storeBits_frame] at hbits
  rw [conformingWave, List.append_assoc, e]
  exact hbits

end Sys2Proof.Machine

/-! ## Operations taken one micro-step a step (O60) -/

namespace Sys2Proof.Machine

/-! ### Steps of a machine whose script is empty -/

section
variable {s : State}

/-- A step that answers a next state is the first of a run (log 9). -/
theorem run_next {u : State} (h : step s = .next u) (n : Nat) :
    Host.Core.run Sys2Proof.core (n + 1) s = Host.Core.run Sys2Proof.core n u := by
  have hcore : Sys2Proof.core.step s = .next u := h
  simp only [Host.Core.run, hcore]

/-- With an empty script the sensor engine, where it is not idle, takes the step (log 9). -/
theorem step_sensorTick (hscript : s.env.script = []) (hs : s.sensor.seq ≠ .idle) :
    step s = .next (sensorTick none s) := by
  rw [step_goOn hscript, goOn, nextAgent, if_pos hs]
  rfl

/-- Where it is idle, and outside the critical section, the RTC engine takes it, if it has a micro-step (log 9). -/
theorem step_rtcTick (hscript : s.env.script = []) (hs : s.sensor.seq = .idle) (hm : s.ctl.mask = false)
    (hr : rtcEnabled s = true) : step s = .next (rtcTick s) := by
  have hnext : nextAgent s = some .rtc := by
    rw [nextAgent, if_neg (not_not_intro hs), if_pos hr]
  have hpick : runPick .rtc s = rtcTick s := if_pos (by simp [mayMove, hm])
  rw [step_goOn hscript, goOn, hnext]
  exact congrArg _ hpick

/-- The steps of the machine are the micro-steps of a read run at once (R71, log 8). -/
theorem run_eq_runSensor (k : Nat) (hscript : s.env.script = []) :
    ∃ n, n ≤ k ∧ Host.Core.run Sys2Proof.core n s = .next (runSensor k s) := by
  induction k generalizing s with
  | zero => exact ⟨0, Nat.le_refl 0, rfl⟩
  | succ k ih =>
    by_cases hs : s.sensor.seq = .idle
    · exact ⟨0, Nat.zero_le _, by rw [runSensor_idle hs]; rfl⟩
    · have hnext : (sensorTick none s).env.script = [] :=
        (sensorTick_writesOnly s none .script (by decide)).trans hscript
      obtain ⟨n, hn, e⟩ := ih hnext
      exact ⟨n + 1, Nat.succ_le_succ hn, by rw [run_next (step_sensorTick hscript hs), runSensor_succ hs, e]⟩

/-- An engine without a micro-step is idle, or waits at `W_CHECK` for the lock (R70, R180). -/
theorem runRtc_disabled (h : rtcEnabled s = false) (n : Nat) : runRtc n s = s := by
  unfold rtcEnabled at h
  split at h
  next hs => exact runRtc_idle hs
  next hs => exact runRtc_blocked hs (of_decide_eq_false h) n
  next => cases h

/-- The steps of the machine are the micro-steps of an operation of the RTC engine run at once (R71, log 8). -/
theorem run_eq_runRtc (k : Nat) (hscript : s.env.script = []) (hs : s.sensor.seq = .idle) (hm : s.ctl.mask = false) :
    ∃ n, n ≤ k ∧ Host.Core.run Sys2Proof.core n s = .next (runRtc k s) := by
  induction k generalizing s with
  | zero => exact ⟨0, Nat.le_refl 0, rfl⟩
  | succ k ih =>
    cases hr : rtcEnabled s with
    | false => exact ⟨0, Nat.zero_le _, by rw [runRtc_disabled hr]; rfl⟩
    | true =>
      have hne : s.rtc.seq ≠ .idle := fun h => by simp [rtcEnabled, h] at hr
      have hw := rtcTick_writesOnly s
      obtain ⟨n, hn, e⟩ := ih ((hw .script (by decide)).trans hscript) ((hw .sSeq (by decide)).trans hs)
        ((hw .mask (by decide)).trans hm)
      exact ⟨n + 1, Nat.succ_le_succ hn, by rw [run_next (step_rtcTick hscript hs hm hr), runRtc_succ hne, e]⟩

/-! ### The ends of the three operations, issued -/

/-- A read that has begun ends with its engine idle, whatever the sensor does (R131, R296). -/
theorem runSensor_startSensor_idle (s : State) : (runSensor sensorTicks (startSensor s)).sensor.seq = .idle := by
  have hstart : Reading s .hs1 (atHs1 s (s.time + s.cfg.tWake + s.cfg.tRel)) :=
    .critical rfl nofun (Nat.le_add_right _ _)
  obtain ⟨o, hend, -⟩ := reading_ends hstart (n := 124) (Nat.le_refl _)
  have hrun : runSensor (124 + 2) (startSensor s) = runSensor 124 (atHs1 s (s.time + s.cfg.tWake + s.cfg.tRel)) := by
    rw [runSensor_succ (by simp [startSensor]), runSensor_succ (by simp [sensorTick, startSensor]),
      startSensor_to_hs1]
  exact (congrArg (·.sensor.seq) hrun).trans hend.idle

theorem runRtc_startRead_idle (s : State) : (runRtc readTicks (startRead s)).rtc.seq = .idle := by
  obtain ⟨d, hrun, -⟩ := runRtc_read (s := startRead s) rfl rfl rfl
  obtain ⟨c, ok, e, n, hdec⟩ := decodeClock_writes (atDecode d (startRead s))
  rw [hrun, hdec]

theorem runRtc_startWrite_ends {v : ClockValue} (hl : s.ctl.lock = .free) (hv : inRange v = true) :
    (runRtc writeTicks (startWrite v s)).rtc.seq = .idle ∧ (runRtc writeTicks (startWrite v s)).rtc.cerr = .ok := by
  have hs : (startWrite v s).rtc.seq = .wCheck := by rw [startWrite_inRange hv]
  have hlock : (startWrite v s).ctl.lock = .free := (startWrite_writesOnly v s .lock (by decide)).trans hl
  rw [runRtc_write hs hlock]
  exact ⟨rfl, rfl⟩

/-! ### WAKE and RELEASE with an end that is asked for -/

/-- WAKE ends at the TIME `wakeEnd`, RELEASE at `releaseEnd`, each as a whole state (R132, R133). -/
theorem sensorTick_wake (hs : s.sensor.seq = .wake) (want : Option Nat) :
    sensorTick want s =
      { s with
        time := wakeEnd want s
        aux.sClock := wakeEnd want s
        pins.sdata := .drive1
        sensor.seq := .release } := by
  have ht : max s.time (wakeEnd want s) = wakeEnd want s := Nat.max_eq_right (Nat.le_max_left _ _)
  simp only [sensorTick, hs, timeTo, ht]
  rfl

theorem sensorTick_release (hs : s.sensor.seq = .release) (want : Option Nat) :
    sensorTick want s =
      { s with
        time := releaseEnd want s
        aux.sClock := releaseEnd want s
        aux.sHs1 := releaseEnd want s
        pins.sdata := .input
        ctl.mask := true
        sensor.seq := .hs1 } := by
  have ht : max s.time (releaseEnd want s) = releaseEnd want s := Nat.max_eq_right (Nat.le_max_left _ _)
  simp only [sensorTick, hs, timeTo, ht]
  rfl

/-- A TIME that is asked for within the bounds of the position is its end (log 17). -/
theorem wakeEnd_asked {t : Nat} (hnow : s.time ≤ t) (hbound : s.aux.sClock + s.cfg.tWake ≤ t) :
    wakeEnd (some t) s = t := by
  simp only [wakeEnd, Option.getD_some]
  omega

theorem releaseEnd_asked {t : Nat} (hnow : s.time ≤ t) (hbound : t ≤ s.aux.sClock + s.cfg.tRel) :
    releaseEnd (some t) s = t := by
  simp only [releaseEnd, Option.getD_some]
  omega

theorem releaseEnd_none (h : s.time ≤ s.aux.sClock + s.cfg.tRel) : releaseEnd none s = s.aux.sClock + s.cfg.tRel := by
  simp only [releaseEnd, Option.getD_none]
  omega

theorem le_releaseEnd (want : Option Nat) (s : State) : s.time ≤ releaseEnd want s := Nat.le_max_left _ _

theorem releaseEnd_le (h : s.time ≤ s.aux.sClock + s.cfg.tRel) (want : Option Nat) :
    releaseEnd want s ≤ s.aux.sClock + s.cfg.tRel := Nat.max_le.mpr ⟨h, Nat.min_le_right _ _⟩

/-- A pick of the sensor engine is its micro-step with the end asked for (log 17). -/
theorem step_pick_sensor {want : Option Nat} {items : List Item} (h : s.env.script = .pick (.sensor want) :: items) :
    step s = .next (sensorTick want { s with env.script := items }) := by
  have hdrop : dropItem s = { s with env.script := items } := by rw [dropItem, h, List.tail_cons]
  rw [step_pick h, hdrop]
  rfl

/-- A line with a TIME after the end of RELEASE does not hold RELEASE up (R133, log 16). -/
theorem heldBack_release {l : Line} {i : Instr} {t : Nat} (hs : s.sensor.seq = .release) (ht : l.time = some t)
    (hnow : s.time ≤ s.aux.sClock + s.cfg.tRel) (hlate : s.aux.sClock + s.cfg.tRel < t) : heldBack l i s = true := by
  have hdue : engineDue l.time s = true := by
    rw [ht, engineDue, sensorTick_release hs, releaseEnd_none hnow]
    exact decide_eq_true hlate
  simp [heldBack, hdue, hs]

/-- The state of a read whose wake pulse ended at TIME `t`, with `items` in the script (R132). -/
def atRelease (s : State) (items : List Item) (t : Nat) : State :=
  { startSensor s with
    env.script := items
    time := t
    aux.sClock := t
    pins.sdata := .drive1
    sensor.seq := .release }

theorem step_pick_wake (s : State) (want : Option Nat) (items : List Item) :
    step { startSensor s with env.script := .pick (.sensor want) :: items } =
      .next (atRelease s items (wakeEnd want (startSensor s))) := by
  rw [step_pick_sensor (s := { startSensor s with env.script := .pick (.sensor want) :: items }) rfl,
    sensorTick_wake rfl]
  rfl

theorem step_pick_release (hscript : s.env.script = []) (want : Option Nat) (t : Nat) :
    step (atRelease s [.pick (.sensor want)] t) = .next (atHs1 s (releaseEnd want (atRelease s [] t))) := by
  have hempty (u : State) (hu : u.env.script = []) : { u with env.script := [] } = u := by rw [← hu]
  rw [step_pick_sensor (s := atRelease s [.pick (.sensor want)] t) rfl, sensorTick_release rfl]
  exact congrArg _ (hempty (atHs1 s (releaseEnd want (atRelease s [] t))) hscript)

/-- A read whose WAKE and RELEASE end at any TIMEs asked for comes to `HS1` at some TIME after the wake pulse (R132,
R133). -/
theorem run_picks_to_hs1 (hscript : s.env.script = []) (wake release : Option Nat) : ∃ t, s.time + s.cfg.tWake ≤ t ∧
    ∀ n, Host.Core.run Sys2Proof.core (n + 2)
        { startSensor s with env.script := [.pick (.sensor wake), .pick (.sensor release)] } =
      Host.Core.run Sys2Proof.core n (atHs1 s t) := by
  have hwake : s.time + s.cfg.tWake ≤ wakeEnd wake (startSensor s) :=
    Nat.le_trans (Nat.le_max_left _ _) (Nat.le_max_right _ _)
  refine ⟨releaseEnd release (atRelease s [] (wakeEnd wake (startSensor s))), ?_, fun n => ?_⟩
  · exact Nat.le_trans hwake (le_releaseEnd release (atRelease s [] _))
  · exact (run_next (step_pick_wake s wake [.pick (.sensor release)]) (n + 1)).trans
      (run_next (step_pick_release hscript release _) n)

/-- Settles O60: the steps are the micro-steps of the operation run at once, whose ends are known; the two picked ends, the
line that comes too late, and the waveform read from the `HS1` that the picks lead to. -/
theorem issuedOperationsAgreeAndKeepBounds : Obligations.IssuedOperationsAgreeAndKeepBounds := by
  refine ⟨fun s hscript hs => ⟨?sensor, fun hm => ?read, fun v hm hl hv => ?write⟩, fun s want items hpick =>
    ⟨fun hs => ?wake, fun hs hnow => ?release⟩, ?line, fun s wake release w hscript hl hs ha => ?asked⟩
  case sensor =>
    obtain ⟨n, hn, e⟩ := run_eq_runSensor (s := startSensor s) sensorTicks hscript
    exact ⟨n, hn, e, runSensor_startSensor_idle s⟩
  case read =>
    have hw := startRead_writesOnly s
    obtain ⟨n, hn, e⟩ := run_eq_runRtc readTicks ((hw .script (by decide)).trans hscript)
      ((hw .sSeq (by decide)).trans hs) ((hw .mask (by decide)).trans hm)
    exact ⟨n, hn, e, runRtc_startRead_idle s⟩
  case write =>
    have hw := startWrite_writesOnly v s
    obtain ⟨n, hn, e⟩ := run_eq_runRtc writeTicks ((hw .script (by decide)).trans hscript)
      ((hw .sSeq (by decide)).trans hs) ((hw .mask (by decide)).trans hm)
    exact ⟨n, hn, e, runRtc_startWrite_ends hl hv⟩
  case wake =>
    refine ⟨wakeEnd want s, Nat.le_max_left _ _, ?_, ?_, ?_⟩
    · exact Nat.le_trans (Nat.le_max_left _ _) (Nat.le_max_right _ _)
    · rintro t rfl hnow hbound
      exact wakeEnd_asked hnow hbound
    · rw [step_pick_sensor hpick, sensorTick_wake (by exact hs)]
      rfl
  case release =>
    refine ⟨releaseEnd want s, le_releaseEnd want s, releaseEnd_le hnow want, ?_, ?_⟩
    · rintro t rfl hfrom hbound
      exact releaseEnd_asked hfrom hbound
    · rw [step_pick_sensor hpick, sensorTick_release (by exact hs)]
      rfl
  case line =>
    intro s l items i rest t e hline hd ht hs hnow hlate
    have hheld := heldBack_release (i := i) hs ht hnow hlate
    rw [step_line hline, takeLine_decoded hd (by simp [ht]), if_pos hheld, sensorTick_release hs, releaseEnd_none hnow]
  case asked =>
    obtain ⟨t, ht, hrun⟩ := run_picks_to_hs1 hscript wake release
    obtain ⟨n, hn, e⟩ := run_eq_runSensor (s := atHs1 s t) 124 hscript
    exact ⟨n + 2, _, Nat.add_le_add_right hn 2, (hrun n).trans e, runSensor_atHs1 ha ht⟩

end

end Sys2Proof.Machine

/-! ## Edges between the micro-steps of an RTC operation (O42) -/

namespace Sys2Proof.Machine

/-! ### Two states that the RTC engine cannot tell apart -/

/-- The history without its pushes: the transactions and transfers, and what EV_POP and EV_WAIT_READ returned (R79). -/
def withoutPushes (h : List Event) : List Event := h.filter (fun e => match e with | .push _ => false | _ => true)

@[simp] theorem withoutPushes_append (h h' : List Event) :
    withoutPushes (h ++ h') = withoutPushes h ++ withoutPushes h' := List.filter_append _ _

/-- All that the RTC engine reads and writes is the same in both states, but that TIME is `d` later in the second, whose
history may have other pushes (R187). -/
structure RtcAlike (d : Nat) (s t : State) : Prop where
  rtc : t.rtc = s.rtc
  rce : t.pins.rce = s.pins.rce
  rclk : t.pins.rclk = s.pins.rclk
  rio : t.pins.rio = s.pins.rio
  rioIn : t.env.rioIn = s.env.rioIn
  freeCtr : t.aux.freeCtr = s.aux.freeCtr
  lock : t.ctl.lock = s.ctl.lock
  rioLog : t.trace.rioLog = s.trace.rioLog
  history : withoutPushes t.trace.history = withoutPushes s.trace.history
  cfg : t.cfg = s.cfg
  time : t.time = s.time + d

theorem RtcAlike.refl (s : State) : RtcAlike 0 s s := by constructor <;> rfl

theorem RtcAlike.trans {d e : Nat} {s t u : State} (h : RtcAlike d s t) (h' : RtcAlike e t u) : RtcAlike (d + e) s u where
  rtc := h'.rtc.trans h.rtc
  rce := h'.rce.trans h.rce
  rclk := h'.rclk.trans h.rclk
  rio := h'.rio.trans h.rio
  rioIn := h'.rioIn.trans h.rioIn
  freeCtr := h'.freeCtr.trans h.freeCtr
  lock := h'.lock.trans h.lock
  rioLog := h'.rioLog.trans h.rioLog
  history := h'.history.trans h.history
  cfg := h'.cfg.trans h.cfg
  time := by rw [h'.time, h.time, Nat.add_assoc]

/-! ### Edge events leave it nothing to tell -/

theorem withoutPushes_push (e : PushEvent) (s : State) :
    withoutPushes (push e s).trace.history = withoutPushes s.trace.history := by
  obtain ⟨_, _, h⟩ | ⟨_, h⟩ := push_cases e s <;> rw [h] <;> simp [withoutPushes]

theorem withoutPushes_acceptEdge (new : RawState) (s : State) :
    withoutPushes (acceptEdge new s).trace.history = withoutPushes s.trace.history := by
  by_cases hd : transitionStep s.cfg.dirSwap s.quad.prev new = 0
  · rw [acceptEdge_invalid hd]
    rfl
  · rw [acceptEdge_valid hd]
    obtain ⟨_, h⟩ | ⟨_, _, h⟩ | ⟨_, _, h⟩ :=
      accumulate_cases (transitionStep s.cfg.dirSwap s.quad.prev new) (recordEdge new s) <;> rw [h]
    · exact withoutPushes_push .rotateCW (recordEdge new s)
    · exact withoutPushes_push .rotateCCW (recordEdge new s)
    · rfl

theorem withoutPushes_encoderEdge (a b : Bool) (s : State) :
    withoutPushes (encoderEdge a b s).trace.history = withoutPushes s.trace.history := by
  obtain ⟨_, h⟩ | ⟨_, _, h⟩ | ⟨_, _, _, h⟩ | ⟨_, _, _, h⟩ := encoderEdge_cases a b s <;> rw [h]
  · rfl
  · rfl
  · rfl
  · exact withoutPushes_acceptEdge _ s

theorem withoutPushes_buttonEdge (l : Bool) (s : State) :
    withoutPushes (buttonEdge l s).trace.history = withoutPushes s.trace.history := by
  obtain ⟨_, h⟩ | ⟨_, _, h⟩ | ⟨_, _, h⟩ := buttonEdge_cases l s <;> rw [h]
  · obtain hp | ⟨_, _, hp⟩ := pressButton_cases s <;> rw [hp]
    exact withoutPushes_push .buttonDown _
  · obtain ⟨_, hr⟩ | ⟨_, hr⟩ := releaseButton_cases s <;> rw [hr]
    exact withoutPushes_push .buttonUp _

/-- The parts that the handlers of the edges write are none of the RTC engine's (R53). -/
theorem WritesOnly.rtcAlike {s t : State}
    (h : WritesOnly [.qPrev, .qAcc, .qLast, .latch, .bLast, .pend, .encPins, .btnPin, .slot, .record, .history] s t)
    (hh : withoutPushes t.trace.history = withoutPushes s.trace.history) : RtcAlike 0 s t where
  rtc := h.rtc_eq (by decide)
  rce := h .rce (by decide)
  rclk := h .rclk (by decide)
  rio := h .rio (by decide)
  rioIn := h .rioIn (by decide)
  freeCtr := congrArg Aux.freeCtr (h .aux (by decide))
  lock := h .lock (by decide)
  rioLog := h .rioLog (by decide)
  history := hh
  cfg := h .cfg (by decide)
  time := h .time (by decide)

theorem serveEdge_rtcAlike (e : Edge) (s : State) : RtcAlike 0 s (serveEdge e s) := by
  cases e with
  | enc a b => exact ((encoderEdge_writesOnly s a b).mono (by decide)).rtcAlike (withoutPushes_encoderEdge a b s)
  | btn l => exact ((buttonEdge_writesOnly s l).mono (by decide)).rtcAlike (withoutPushes_buttonEdge l s)

theorem delay_rtcAlike (d : Nat) (s : State) : RtcAlike d s (delay d s) := by constructor <;> rfl

theorem serveEdges_rtcAlike (es : List (Nat × Edge)) (s : State) : RtcAlike (edgeTime es) s (serveEdges es s) := by
  induction es generalizing s with
  | nil => exact .refl s
  | cons e es ih =>
    have h := ((delay_rtcAlike e.1 s).trans (serveEdge_rtcAlike e.2 _)).trans (ih _)
    rwa [Nat.add_zero, show e.1 + edgeTime es = edgeTime (e :: es) by simp [edgeTime]] at h

/-! ### A micro-step keeps them alike -/

namespace RtcAlike

variable {d : Nat} {s t : State} (h : RtcAlike d s t)
include h

theorem delay (n : Nat) : RtcAlike d (delay n s) (delay n t) :=
  { h with time := by simp only [delay_time, h.time]; omega }

theorem setRce (v : Bool) : RtcAlike d (setRce v s) (setRce v t) := { h with rce := rfl }

theorem driveRio (v : Drive) : RtcAlike d (driveRio v s) (driveRio v t) := { h with rio := rfl }

theorem recordEvent (e : Event) : RtcAlike d (recordEvent e s) (recordEvent e t) :=
  { h with history := by simp only [recordEvent_trace, withoutPushes_append, h.history] }

theorem rtcTo (q : CSeq) (ph : CPhase) : RtcAlike d (rtcTo q ph s) (rtcTo q ph t) :=
  { h with rtc := by simp only [rtcTo_rtc, h.rtc] }

theorem phaseTo (ph : CPhase) : RtcAlike d (phaseTo ph s) (phaseTo ph t) :=
  { h with rtc := by simp only [phaseTo_rtc, h.rtc] }

theorem storeByte (j : Fin 8) : RtcAlike d (storeByte j s) (storeByte j t) :=
  { h with rtc := by simp only [storeByte_rtc, h.rtc] }

theorem rioLevel : rioLevel t = rioLevel s := by
  simp only [Machine.rioLevel, h.rio, h.rioIn, h.freeCtr]

theorem bitAct (k : ByteKind) (q : BitPhase) : RtcAlike d (bitAct k q s) (bitAct k q t) := by
  cases q with
  | load => exact { h with rtc := by simp only [Machine.bitAct, h.rtc] }
  | drive => exact { h with rio := by simp only [Machine.bitAct, bitAtHand, h.rtc]; rfl }
  | low | high =>
    have hd := h.delay s.cfg.tHalfbit
    simpa only [Machine.bitAct, h.cfg] using hd
  | sample =>
    exact { h with
      rtc := by simp only [Machine.bitAct, sampleRio, useFree, h.rtc, h.rioLevel]
      rioIn := congrArg List.tail h.rioIn
      freeCtr := congrArg (· + 1) h.freeCtr }
  | rise => exact { h with rclk := rfl, rioLog := by simp only [Machine.bitAct, clockRise, bitAtHand, h.rtc, h.rioLog] }
  | turn => exact h.driveRio .input
  | fall => exact { h with rtc := by simp only [Machine.bitAct, clockFall, h.rtc], rclk := rfl }

theorem afterCommand : RtcAlike d (afterCommand s) (afterCommand t) := by
  simp only [Machine.afterCommand, h.rtc]
  split
  · exact h.rtcTo _ _
  · exact h.phaseTo _

theorem afterData : RtcAlike d (afterData s) (afterData t) := by
  simp only [Machine.afterData, h.rtc]
  repeat' split
  · exact (h.storeByte _).rtcTo _ _
  · exact (h.storeByte _).phaseTo _
  · exact h.phaseTo _

theorem byteTick (k : ByteKind) (put : BitPhase → CPhase) {done : State → State}
    (hd : ∀ u v, RtcAlike d u v → RtcAlike d (done u) (done v)) (q : BitPhase) :
    RtcAlike d (byteTick k put done q s) (byteTick k put done q t) := by
  have hb := h.bitAct k q
  simp only [Machine.byteTick, hb.rtc]
  split
  · exact hb.phaseTo _
  · exact hd _ _ hb

theorem closeTick : RtcAlike d (closeTick s) (closeTick t) := by
  simp only [Machine.closeTick, h.rtc, h.cfg]
  split <;> exact ((h.setRce false).recordEvent _).phaseTo _

theorem settleTick : RtcAlike d (settleTick s) (settleTick t) := by
  simp only [Machine.settleTick, h.rtc]
  repeat' split
  · exact (h.driveRio .input).rtcTo _ _
  · exact (h.driveRio .input).phaseTo _
  · exact (h.driveRio .input).phaseTo _

theorem releaseLock (e : Engine) : RtcAlike d (releaseLock e s) (releaseLock e t) := by
  rw [releaseLock_eq, releaseLock_eq]
  exact { h with lock := by simp only [h.lock] }

theorem finishTick : RtcAlike d (finishTick s) (finishTick t) := by
  simp only [Machine.finishTick, h.rtc]
  split
  · have hok : RtcAlike d { s with rtc.cerr := .ok } { t with rtc.cerr := .ok } := { h with rtc := by simp only [h.rtc] }
    exact (hok.rtcTo .idle .rest).releaseLock .rtc
  · exact (h.releaseLock .rtc).rtcTo _ _

theorem windowTick : RtcAlike d (windowTick s) (windowTick t) := by
  have hcommand : commandKind t = commandKind s := by simp only [commandKind, h.rtc, h.cfg]
  have hdata : dataKind t = dataKind s := by simp only [dataKind, h.rtc, h.cfg]
  simp only [Machine.windowTick, h.rtc, h.cfg, hcommand, hdata]
  cases s.rtc.phase with
  | rest => exact (h.setRce true).phaseTo _
  | lead | trail => exact (h.delay _).phaseTo _
  | command q => exact h.byteTick _ _ (fun _ _ h' => h'.afterCommand) q
  | data q => exact h.byteTick _ _ (fun _ _ h' => h'.afterData) q
  | close => exact h.closeTick
  | settle => exact h.settleTick
  | finish => exact h.finishTick

theorem decodeClock : RtcAlike d (decodeClock s) (decodeClock t) := by
  have hdec : clockDec t.cfg t.rtc.cbuf = clockDec s.cfg s.rtc.cbuf := by rw [h.cfg, h.rtc]
  cases hs : clockDec s.cfg s.rtc.cbuf with
  | some v =>
    rw [decodeClock_some hs, decodeClock_some (hdec.trans hs)]
    exact { h with rtc := by simp only [h.rtc] }
  | none =>
    rw [decodeClock_none hs, decodeClock_none (hdec.trans hs)]
    exact { h with
      rtc := by simp only [raiseReadClock, useFree, h.rtc, h.freeCtr]
      freeCtr := congrArg (· + 7) h.freeCtr }

theorem rtcTick : RtcAlike d (rtcTick s) (rtcTick t) := by
  simp only [Machine.rtcTick, h.rtc, h.lock]
  split
  · exact h
  · exact h.decodeClock
  · split
    · exact { h with lock := rfl, rtc := by simp only [rtcTo_rtc, acquire_rtc, h.rtc] }
    · exact h
  · exact h.windowTick

end RtcAlike

/-- Edges before each of any micro-steps: TIME is later by theirs, and all else of the RTC engine's is as without them
(R71, R187). -/
theorem rtcAmongEdges_rtcAlike (sched : List (List (Nat × Edge))) {d : Nat} {s t : State} (h : RtcAlike d s t) :
    RtcAlike (d + (sched.map edgeTime).sum) (rtcAmongEdges (sched.map fun _ => []) s) (rtcAmongEdges sched t) := by
  induction sched generalizing d s t with
  | nil => exact h
  | cons es sched ih =>
    have hstep := ih (h.trans (serveEdges_rtcAlike es t)).rtcTick
    rwa [Nat.add_assoc, ← List.sum_cons, ← List.map_cons] at hstep

/-- Settles O42: from one state, with the edges and without them. -/
theorem edgesDoNotDisturbRtcBytes : Obligations.EdgesDoNotDisturbRtcBytes := by
  intro sched s busy alone
  have h := rtcAmongEdges_rtcAlike sched (RtcAlike.refl s)
  rw [Nat.zero_add] at h
  exact ⟨h.rtc, h.rce, h.rclk, h.rio, h.rioLog, h.lock, h.time, h.history⟩

end Sys2Proof.Machine

/-! ## The critical section, and edges held in it (O50) -/

namespace Sys2Proof.Machine

/-! ### What joins the history in a transfer -/

/-- From `s` to `t` nothing but transfers of the sensor joined the history (R79). -/
def AddsTransfers (s t : State) : Prop :=
  ∃ h, t.trace.history = s.trace.history ++ h ∧ ∀ e ∈ h, (∃ f, e = Event.sensorFrame f) ∨ ∃ k, e = Event.sensorTimeout k

section

variable {s t u : State}

theorem AddsTransfers.same (h : t.trace.history = s.trace.history) : AddsTransfers s t :=
  ⟨[], by rw [h, List.append_nil], nofun⟩

theorem AddsTransfers.trans (h : AddsTransfers s t) (h' : AddsTransfers t u) : AddsTransfers s u := by
  obtain ⟨es, he, hes⟩ := h
  obtain ⟨es', he', hes'⟩ := h'
  refine ⟨es ++ es', by rw [he', he, List.append_assoc], fun e hmem => ?_⟩
  obtain hmem | hmem := List.mem_append.mp hmem
  · exact hes e hmem
  · exact hes' e hmem

theorem WritesOnly.addsTransfers {ps : List Part} (h : WritesOnly ps s t) (hps : Part.history ∉ ps) :
    AddsTransfers s t := .same (h .history hps)

variable (s)

theorem recordFrame_addsTransfers (f : Vector Byte 5) : AddsTransfers s (recordEvent (.sensorFrame f) s) :=
  ⟨[.sensorFrame f], rfl, fun _ he => .inl ⟨f, List.mem_singleton.mp he⟩⟩

theorem recordTimeout_addsTransfers (k : Nat) : AddsTransfers s (recordEvent (.sensorTimeout k) s) :=
  ⟨[.sensorTimeout k], rfl, fun _ he => .inr ⟨k, List.mem_singleton.mp he⟩⟩

theorem waitThen_addsTransfers (v : Bool) {onward : State → State} (ho : ∀ u, AddsTransfers u (onward u)) :
    AddsTransfers s (waitThen v onward s) := by
  have hwait := (waitLevel_writesOnly s v).addsTransfers (by decide)
  obtain ⟨_, h⟩ | ⟨_, h⟩ := waitThen_cases v onward s <;> rw [h]
  · exact hwait.trans (ho _)
  · exact hwait.trans ((recordTimeout_addsTransfers _ _).trans
      ((raiseSensor_writesOnly _ _ _).addsTransfers (by decide)))

theorem afterBit_addsTransfers (i : Fin 40) : AddsTransfers s (afterBit i s) := by
  unfold afterBit
  split
  · exact .same rfl
  · exact .trans (t := { s with ctl.mask := false }) (.same rfl) ((recordFrame_addsTransfers _ _).trans (.same rfl))

/-- Every entry that the sensor engine makes is a transfer (R79). -/
theorem sensorTick_addsTransfers (want : Option Nat) : AddsTransfers s (sensorTick want s) := by
  unfold sensorTick
  cases s.sensor.seq with
  | idle | wake | release => exact .same rfl
  | hs1 | hs2 | hs3 | bitHi i => exact waitThen_addsTransfers s _ fun _ => .same rfl
  | bitSample i => exact (sampleStore_writesOnly s i).addsTransfers (by decide)
  | bitLo i => exact waitThen_addsTransfers s _ fun u => afterBit_addsTransfers u i
  | check =>
    by_cases hg : checksumGood s.sensor.frame = true
    · simp only [if_pos hg]
      exact (finishSensor_writesOnly s).addsTransfers (by decide)
    · simp only [if_neg hg]
      exact (raiseSensor_writesOnly s _ _).addsTransfers (by decide)

theorem runSensor_addsTransfers (n : Nat) : AddsTransfers s (runSensor n s) := by
  induction n generalizing s with
  | zero => exact .same rfl
  | succ n ih =>
    by_cases hs : s.sensor.seq = .idle
    · rw [runSensor_idle hs]
      exact .same rfl
    · rw [runSensor_succ hs]
      exact (sensorTick_addsTransfers s none).trans (ih _)

theorem frameByte_addsTransfers (n : Fin 5) (b : Byte) : AddsTransfers s (frameByte n b s) := by
  unfold frameByte
  split
  next i _ =>
    by_cases hi : i.val = 8 * n.val
    · rw [if_pos hi]
      exact runSensor_addsTransfers { s with env.sensorIn := [.frame ((Vector.replicate 5 0).set n.val b)] } 24
    · rw [if_neg hi]
      exact .same rfl
  next => exact .same rfl

end

/-! ### Only the sensor engine steps in the critical section -/

/-- The parts that a step in the critical section may write: the sensor engine's, the held edges and the levels of the
input pins, and what the environment gives (R134, R304, R308). -/
def maskedParts : List Part :=
  sensorParts ++ [.pend, .encPins, .btnPin, .ctx, .rioIn, .keep, .script]

/-- From `s` to `t` no unit but the sensor engine has stepped (R134, R308). -/
structure SensorOnly (s t : State) : Prop where
  parts : WritesOnly maskedParts s t
  history : AddsTransfers s t

section

variable {s t u : State}

theorem SensorOnly.trans (h : SensorOnly s t) (h' : SensorOnly t u) : SensorOnly s u :=
  ⟨h.parts.trans h'.parts, h.history.trans h'.history⟩

/-- An operation that writes no history and only parts of those. -/
theorem WritesOnly.sensorOnly {ps : List Part} (h : WritesOnly ps s t) (hsub : ps ⊆ maskedParts)
    (hps : Part.history ∉ ps) : SensorOnly s t :=
  ⟨h.mono hsub, h.addsTransfers hps⟩

theorem SensorOnly.refl (s : State) : SensorOnly s s :=
  (WritesOnly.refl [] s).sensorOnly (List.nil_subset _) List.not_mem_nil

theorem sensorTick_sensorOnly (want : Option Nat) (s : State) : SensorOnly s (sensorTick want s) :=
  ⟨(sensorTick_writesOnly s want).mono (by decide), sensorTick_addsTransfers s want⟩

theorem frameByte_sensorOnly (n : Fin 5) (b : Byte) (s : State) : SensorOnly s (frameByte n b s) := by
  have hsub : partsWritten (sframeRow n b) ⊆ maskedParts := by
    match n with
    | 0 | 1 | 2 | 3 | 4 => simp [partsWritten, sframeRow, maskedParts, sensorParts]
  exact ⟨(frameByte_writesOnly s n b).mono hsub, frameByte_addsTransfers s n b⟩

/-- An encoder edge in the critical section is held or lost (R304). -/
theorem encoderEdge_masked (hm : s.ctl.mask = true) (a b : Bool) : SensorOnly s (encoderEdge a b s) := by
  have pins (u : State) : SensorOnly u (encoderPins a b u) :=
    (encoderPins_writesOnly u a b).sensorOnly (by decide) (by decide)
  obtain ⟨_, h⟩ | ⟨_, _, h⟩ | ⟨_, hm', _⟩ | ⟨_, hm', _⟩ := encoderEdge_cases a b s
  · rw [h]
    exact pins s
  · rw [h]
    exact ((holdEncoder_writesOnly s a b).sensorOnly (by decide) (by decide)).trans (pins _)
  · rw [hm] at hm'; cases hm'
  · rw [hm] at hm'; cases hm'

/-- So is a button edge (R237, R304). -/
theorem buttonEdge_masked (hm : s.ctl.mask = true) (l : Bool) :
    buttonEdge l s = { s with ctl.pend.btn := s.ctl.pend.btn || s.env.keep.btn, pins.btn := l } := by
  obtain ⟨_, h⟩ | ⟨hm', _, _⟩ | ⟨hm', _, _⟩ := buttonEdge_cases l s
  · exact h
  · rw [hm] at hm'; cases hm'
  · rw [hm] at hm'; cases hm'

theorem buttonEdge_sensorOnly (hm : s.ctl.mask = true) (l : Bool) : SensorOnly s (buttonEdge l s) := by
  refine WritesOnly.sensorOnly (ps := [.pend, .btnPin]) ?_ (by decide) (by decide)
  rw [buttonEdge_masked hm]
  intro p hp
  cases p <;> simp_all [Part.same]

theorem inPlace_sensorOnly {here : Bool} {f : State → State} (hf : SensorOnly s (f s)) :
    SensorOnly s (inPlace here f s) := by
  obtain ⟨_, h⟩ | ⟨_, h⟩ := inPlace_cases here f s <;> rw [h]
  · exact hf
  · exact .refl s

theorem tableEntry_sensorOnly (hm : s.ctl.mask = true) (prev new : RawState) : SensorOnly s (tableEntry prev new s) :=
  inPlace_sensorOnly (encoderEdge_masked hm _ _)

/-- What a line may do in the critical section (R91, R292, R304). -/
theorem exec_servedMasked {i : Instr} (hm : s.ctl.mask = true) (hi : servedMasked i = true) (h : exec i s = .next t) :
    SensorOnly s t := by
  have bus {f : State → State} (hb : busStep f s = .next t) (hf : SensorOnly s (f s)) : SensorOnly s t := by
    obtain ⟨_, hn⟩ := taskOnly_next hb
    cases hn
    exact hf
  have next {u : State} (hn : (.next u : Host.Outcome State Fault Refusal) = .next t) (hu : SensorOnly s u) :
      SensorOnly s t := by
    cases hn
    exact hu
  cases i
  case encEdge a b => exact next h (encoderEdge_masked hm a b)
  case btnEdge l => exact next h (buttonEdge_sensorOnly hm l)
  case errTimeout => exact bus h (inPlace_sensorOnly (sensorTick_sensorOnly none s))
  case sframeHumInt b => exact bus h (frameByte_sensorOnly 0 b s)
  case sframeHumFrac b => exact bus h (frameByte_sensorOnly 1 b s)
  case sframeTempInt b => exact bus h (frameByte_sensorOnly 2 b s)
  case sframeTempFrac b => exact bus h (frameByte_sensorOnly 3 b s)
  case sframeChecksum b => exact bus h (frameByte_sensorOnly 4 b s)
  case q_00_00 | q_00_01 | q_00_10 | q_00_11 | q_01_00 | q_01_01 | q_01_10 | q_01_11 | q_10_00 | q_10_01 | q_10_10 |
      q_10_11 | q_11_00 | q_11_01 | q_11_10 | q_11_11 => exact next h (tableEntry_sensorOnly hm _ _)
  all_goals cases hi

/-- Serving a line writes TIME, the context and the environment's inputs (R74, R116). -/
theorem serveLine_writesOnly (l : Line) (s : State) :
    WritesOnly [.time, .ctx, .sensorIn, .rioIn, .keep, .script] s (serveLine l s) := by
  unfold serveLine
  obtain ⟨e, he, -⟩ := installAll_env l.env { timeTo (l.time.getD 0) (dropItem s) with ctl.ctx := l.ctx }
  rw [he]
  intro p hp
  cases p <;> simp_all [Part.same]

theorem ctx_writesOnly (c : Context) (s : State) : WritesOnly [.ctx] s { s with ctl.ctx := c } := by
  intro p hp
  cases p <;> simp_all [Part.same]

theorem dropItem_writesOnly (s : State) : WritesOnly [.script] s (dropItem s) := by
  intro p hp
  cases p <;> simp_all [Part.same]

/-- A pick moves the sensor engine or nothing (R308). -/
theorem runPick_masked (hm : s.ctl.mask = true) (p : Pick) : SensorOnly s (runPick p s) := by
  obtain ⟨hmay, h⟩ | ⟨_, _, h⟩ := runPick_cases p s <;> rw [h]
  · cases p with
    | sensor want => exact sensorTick_sensorOnly want s
    | rtc | grant n | reader | late src => simp [mayMove, hm] at hmay
  · exact .refl s

theorem goOn_masked (hm : s.ctl.mask = true) : SensorOnly s (goOn s) := by
  unfold goOn
  split
  next p _ => exact runPick_masked hm p
  next => exact .refl s

/-- A line that is not held back in the critical section is one that may be served there (R304, R308). -/
theorem servedMasked_of_not_heldBack {l : Line} {i : Instr} (hm : s.ctl.mask = true) (hb : heldBack l i s = false) :
    servedMasked i = true := by
  unfold heldBack at hb
  rw [if_pos hm] at hb
  cases h : servedMasked i
  · rw [h] at hb; cases hb
  · rfl

/-- None of these is a bus operation that is issued. -/
theorem requestOf_servedMasked {i : Instr} (hi : servedMasked i = true) : requestOf i = none := by
  cases i <;> cases hi <;> rfl

theorem takeLine_masked {l : Line} (hm : s.ctl.mask = true) (h : takeLine l s = .next t) : SensorOnly s t := by
  obtain ⟨_, _, e⟩ | ⟨i, _, _, ⟨_, _, e⟩ | ⟨_, _, e⟩ | ⟨_, hb, e⟩⟩ := takeLine_cases l s <;> rw [e] at h
  · cases h
  · cases h
  · cases h
    exact sensorTick_sensorOnly none s
  · have hi := servedMasked_of_not_heldBack hm hb
    have hserve := serveLine_writesOnly l s
    obtain ⟨u, hu, rfl⟩ := backToTask_next h
    rw [runLine_exec (.inr (requestOf_servedMasked hi))] at hu
    have hrun := exec_servedMasked ((hserve .mask (by decide)).trans hm) hi hu
    exact (hserve.sensorOnly (by decide) (by decide)).trans
      (hrun.trans ((ctx_writesOnly _ u).sensorOnly (by decide) (by decide)))

/-- In the critical section no unit but the sensor engine steps, whatever the script holds (R134, R308). -/
theorem step_masked (hm : s.ctl.mask = true) (h : step s = .next t) : SensorOnly s t := by
  unfold step at h
  split at h
  next => cases h; exact goOn_masked hm
  next p _ _ =>
    cases h
    exact ((dropItem_writesOnly s).sensorOnly (by decide) (by decide)).trans (runPick_masked (s := dropItem s) hm p)
  next => exact takeLine_masked hm h
  next => exact takeLine_masked hm h

/-! ### Held edges -/

theorem pend_get_clear (k : IrqSet) (src : Source) : (k.clear src).get src = false := by cases src <;> rfl

/-- An edge that is not held, or is held in the critical section, is not served (R304). -/
theorem runPick_late_masked (hm : s.ctl.mask = true) (src : Source) : runPick (.late src) s = s :=
  if_neg (by simp [mayMove, hm])

theorem runPick_late_not_held {src : Source} (h : s.ctl.pend.get src = false) : runPick (.late src) s = s := by
  obtain ⟨_, e⟩ | ⟨_, _, e⟩ := runPick_cases (.late src) s
  · rw [e]
    exact if_neg (by simp [h])
  · exact e

/-- The edge event that serves a held edge of a source, with the present levels (R304). -/
def lateEdge (src : Source) (s : State) : State :=
  match src with
  | .btn => buttonEdge s.pins.btn s
  | _ => encoderEdge s.pins.encA s.pins.encB s

theorem runPick_late_held {src : Source} (hm : s.ctl.mask = false) (h : s.ctl.pend.get src = true) :
    runPick (.late src) s = lateEdge src { s with ctl.pend := s.ctl.pend.clear src } := by
  have hmay : mayMove (.late src) s = true := by simp [mayMove, hm]
  have hserve : serveLate src s = lateEdge src { s with ctl.pend := s.ctl.pend.clear src } := by
    rw [serveLate, if_pos ⟨h, hm⟩]
    cases src <;> rfl
  rw [runPick, if_pos hmay]
  exact hserve

/-- Outside the critical section an edge event holds no edge and drops none (R304). -/
theorem lateEdge_pend (src : Source) (hm : s.ctl.mask = false) : (lateEdge src s).ctl.pend = s.ctl.pend := by
  have button (l : Bool) : (buttonEdge l s).ctl.pend = s.ctl.pend := by
    obtain ⟨hm', _⟩ | ⟨_, _, h⟩ | ⟨_, _, h⟩ := buttonEdge_cases l s
    · rw [hm] at hm'; cases hm'
    · rw [h]
      obtain hp | ⟨_, _, hp⟩ := pressButton_cases s <;> rw [hp]
      exact push_writesOnly _ .buttonDown .pend (by decide)
    · rw [h]
      obtain ⟨_, hr⟩ | ⟨_, hr⟩ := releaseButton_cases s <;> rw [hr]
      exact push_writesOnly _ .buttonUp .pend (by decide)
  have encoder (a b : Bool) : (encoderEdge a b s).ctl.pend = s.ctl.pend := by
    obtain ⟨_, h⟩ | ⟨_, hm', _⟩ | ⟨_, _, _, h⟩ | ⟨_, _, _, h⟩ := encoderEdge_cases a b s
    · rw [h]; rfl
    · rw [hm] at hm'; cases hm'
    · rw [h]; rfl
    · rw [h]; exact acceptEdge_writesOnly s _ .pend (by decide)
  cases src with
  | btn => exact button _
  | encA | encB => exact encoder _ _

theorem exec_lateEdge (src : Source) (s : State) :
    exec (match src with | .btn => .btnEdge s.pins.btn | _ => .encEdge s.pins.encA s.pins.encB) s =
      .next (lateEdge src s) := by
  cases src <;> rfl

/-- Which edges of the encoder are held (R304, log 14). -/
theorem exec_encEdge_held (hm : s.ctl.mask = true) (hen : s.quad.rotEn = true) (a b : Bool) :
    exec (.encEdge a b) s =
      .next { s with ctl.pend := (holdEncoder a b s).ctl.pend, pins.encA := a, pins.encB := b } := by
  rw [exec_encEdge, encoderEdge, hen, hm]
  rfl

/-- Settles O50: the steps of the critical section, the edges held in it, and the held edge that is served outside it. -/
theorem maskedUnitsStayAndHeldEdgesAreServedOnce : Obligations.MaskedUnitsStayAndHeldEdgesAreServedOnce := by
  refine ⟨fun s t hm h => ?step, fun s a b hm hen => ?encoder, fun s l hm => ?button,
    fun s src hm => runPick_late_masked hm src, fun s src hm hheld => ?late⟩
  case step =>
    obtain ⟨hparts, hhist⟩ := step_masked hm h
    exact ⟨hparts.quad_eq (by decide), hparts.button_eq (by decide), hparts.chan_eq (by decide),
      hparts.rtc_eq (by decide), hparts .rce (by decide), hparts .rclk (by decide), hparts .rio (by decide),
      hparts .rioLog (by decide), hparts .waiting (by decide), hparts .readers (by decide), hhist⟩
  case encoder =>
    refine ⟨(holdEncoder a b s).ctl.pend, exec_encEdge_held hm hen a b, ?_, ?_, rfl⟩
    · simp [holdEncoder]
    · simp [holdEncoder]
  case button =>
    rw [exec_btnEdge, buttonEdge_masked hm]
  case late =>
    have hclear := pend_get_clear s.ctl.pend src
    have hrun := runPick_late_held hm hheld
    have hpend : (runPick (.late src) s).ctl.pend.get src = false := by
      rw [hrun, lateEdge_pend src (by exact hm)]
      exact hclear
    exact ⟨by rw [hrun]; exact (exec_lateEdge src { s with ctl.pend := s.ctl.pend.clear src }).symm, hpend,
      runPick_late_not_held hpend⟩

end

end Sys2Proof.Machine

/-! ## Every step keeps the invariant (O9) -/

namespace Sys2Proof.Machine

/-! ### The invariant, unit by unit -/

/-- What the invariant says of the sensor engine (R22, R24, R42, R70, R134). -/
structure SensorSound (s : State) : Prop where
  lock : s.ctl.lock = .held .sensor ↔ s.sensor.seq ≠ .idle
  mask : s.ctl.mask = inCritical s.sensor.seq
  sdata : s.pins.sdata = sdataDriveAt s.sensor.seq
  bits : ∀ n, bitsReceivedAt s.sensor.seq = some n → s.sensor.bitcnt = n
  codes : s.sensor.serr = .ok ∨ s.sensor.serr = .timeout ∨ s.sensor.serr = .checksumMismatch
  step :
    (s.sensor.serr = .timeout → 1 ≤ s.sensor.serrStep ∧ s.sensor.serrStep ≤ 83) ∧
    (s.sensor.serr ≠ .timeout → s.sensor.serrStep = 0)

/-- What it says of the registers of the RTC engine (R28, R46, R70, R96, R172, R181). -/
structure ClockSound (s : State) : Prop where
  lock : s.ctl.lock = .held .rtc ↔ rtcHolds s.rtc.seq = true
  codes : s.rtc.cerr = .ok ∨ s.rtc.cerr = .rangeError
  range : s.rtc.valid = true → s.rtc.clock.second ≤ 59 ∧ s.rtc.clock.minute ≤ 59 ∧ s.rtc.clock.hour ≤ 23
  write : (s.rtc.seq = .wCheck ∨ ∃ p, s.rtc.seq = .wPair p) → inRange s.rtc.wbuf = true

/-- What it says of the three wires of the RTC bus and the byte on them (R26, R43, R161, R163 to R167). -/
structure WireSound (s : State) : Prop where
  fits : phaseFits s = true
  rce : s.pins.rce = windowOpen s.rtc.phase
  rclk : s.pins.rclk = clockHigh s.rtc.phase
  rio : mayDriveRio s = false → s.pins.rio = .input
  counted : ∀ k q, byteInFlight s = some (k, q) → s.rtc.bitcnt < 8 ∧ ∀ b turn, k = .out b turn → s.rtc.shift = b
  turn : ∀ k, byteInFlight s = some (k, .turn) → s.rtc.bitcnt = 7

/-- What it says of the decoder, the latch and the event channel (R31, R32, R35, R37, R38). -/
structure EventSound (s : State) : Prop where
  acc : -(s.cfg.nDetent : Int) < s.quad.acc ∧ s.quad.acc < (s.cfg.nDetent : Int)
  quad : ∀ t, s.quad.last = some t → t ≤ s.time
  button : ∀ t, s.button.last = some t → t ≤ s.time
  avail : s.chan.avail = true ↔ s.chan.record.kind ≠ .none
  dir : s.chan.record.kind ≠ .rot → s.chan.record.dir = false

/-- The invariant in any context: within a line's turn the block may be in a handler (R300). -/
structure Sound (s : State) : Prop where
  sensor : SensorSound s
  clock : ClockSound s
  wire : WireSound s
  event : EventSound s

/-- The invariant is soundness between two steps (R302). -/
theorem inv_iff (s : State) : Inv s ↔ Sound s ∧ s.ctl.ctx = .task := by
  constructor
  · intro h
    exact ⟨⟨⟨h.lock_sensor, h.mask_critical, h.sdata_drive, h.bits_counted, h.serr_codes, h.serr_step⟩,
      ⟨h.lock_rtc, h.cerr_codes, h.clock_range, h.write_range⟩,
      ⟨h.rtc_phase, h.rce_window, h.rclk_pulse, h.rio_released, h.byte_counted, h.turn_last⟩,
      ⟨h.acc_inside, h.quad_last, h.button_last, h.avail_record, h.record_dir⟩⟩, h.task_context⟩
  · rintro ⟨⟨hs, hc, hw, he⟩, hctx⟩
    exact
      { lock_sensor := hs.lock, mask_critical := hs.mask, sdata_drive := hs.sdata, bits_counted := hs.bits
        serr_codes := hs.codes, serr_step := hs.step
        lock_rtc := hc.lock, cerr_codes := hc.codes, clock_range := hc.range, write_range := hc.write
        rtc_phase := hw.fits, rce_window := hw.rce, rclk_pulse := hw.rclk, rio_released := hw.rio
        byte_counted := hw.counted, turn_last := hw.turn
        acc_inside := he.acc, quad_last := he.quad, button_last := he.button, avail_record := he.avail
        record_dir := he.dir
        task_context := hctx }

/-! ### What is not written stays sound -/

section Kept

variable {ps : List Part} {s t : State} (hw : WritesOnly ps s t)
include hw

theorem SensorSound.kept (h : SensorSound s)
    (hps : ∀ p ∈ [Part.sSeq, .frame, .sres, .serr] ++ [.mask, .sdata], p ∉ ps)
    (hl : t.ctl.lock = .held .sensor ↔ s.ctl.lock = .held .sensor) : SensorSound t := by
  have hsensor := hw.sensor_eq fun p hp => hps p (List.mem_append_left _ hp)
  have hmask : t.ctl.mask = s.ctl.mask := hw .mask (hps _ (by decide))
  have hsdata : t.pins.sdata = s.pins.sdata := hw .sdata (hps _ (by decide))
  obtain ⟨lock, mask, sdata, bits, codes, step⟩ := h
  constructor
  case lock => rw [hl, hsensor, lock]
  case mask => rw [hmask, hsensor, mask]
  case sdata => rw [hsdata, hsensor, sdata]
  all_goals rwa [hsensor]

theorem ClockSound.kept (h : ClockSound s) (hps : ∀ p ∈ [Part.cSeq, .cbuf, .cshift, .cres, .cerr, .wbuf], p ∉ ps)
    (hl : t.ctl.lock = .held .rtc ↔ s.ctl.lock = .held .rtc) : ClockSound t := by
  have hrtc := hw.rtc_eq hps
  obtain ⟨lock, codes, range, write⟩ := h
  constructor
  case lock => rw [hl, hrtc, lock]
  all_goals rwa [hrtc]

/-- Two states that agree on the engine's registers, its pins and the parameters are on the same micro-step. -/
theorem WireSound.kept (h : WireSound s)
    (hps : ∀ p ∈ [Part.cSeq, .cbuf, .cshift, .cres, .cerr, .wbuf] ++ [.rce, .rclk, .rio, .cfg], p ∉ ps) : WireSound t := by
  have hrtc := hw.rtc_eq fun p hp => hps p (List.mem_append_left _ hp)
  have hrce : t.pins.rce = s.pins.rce := hw .rce (hps _ (by decide))
  have hrclk : t.pins.rclk = s.pins.rclk := hw .rclk (hps _ (by decide))
  have hrio : t.pins.rio = s.pins.rio := hw .rio (hps _ (by decide))
  have hcfg : t.cfg = s.cfg := hw .cfg (hps _ (by decide))
  have hbyte : byteInFlight t = byteInFlight s := by
    simp only [byteInFlight, commandKind, dataKind, hrtc, hcfg]
  obtain ⟨fits, rce, rclk, rio, counted, turn⟩ := h
  constructor
  case fits => simpa only [phaseFits, commandKind, dataKind, hrtc, hcfg] using fits
  case rce => rw [hrce, hrtc, rce]
  case rclk => rw [hrclk, hrtc, rclk]
  case rio => simpa only [mayDriveRio, hrtc, hrio] using rio
  case counted => rwa [hbyte, hrtc]
  case turn => rwa [hbyte, hrtc]

theorem EventSound.kept (h : EventSound s)
    (hps : ∀ p ∈ [Part.qPrev, .qAcc, .qLast, .rotEn] ++ ([.latch, .bLast] ++ [.slot, .record]), p ∉ ps) (ho : Onward s t) :
    EventSound t := by
  have hquad := hw.quad_eq fun p hp => hps p (List.mem_append_left _ hp)
  have hbutton := hw.button_eq fun p hp => hps p (List.mem_append_right _ (List.mem_append_left _ hp))
  have hchan := hw.chan_eq fun p hp => hps p (List.mem_append_right _ (List.mem_append_right _ hp))
  obtain ⟨acc, quad, button, avail, dir⟩ := h
  constructor
  case acc => rwa [hquad, ho.cfg]
  case quad => exact fun n hn => Nat.le_trans (quad n (hquad ▸ hn)) ho.time
  case button => exact fun n hn => Nat.le_trans (button n (hbutton ▸ hn)) ho.time
  all_goals rwa [hchan]

end Kept

/-! ### The sensor engine -/

section SensorEngine

variable {s : State}

/-- An error leaves the engine idle and its result codes in order, whatever was before (R24, R296). -/
theorem raiseSensor_sensorSound {e : ErrCode} {k : Nat}
    (he : e = .timeout ∧ 1 ≤ k ∧ k ≤ 83 ∨ e = .checksumMismatch ∧ k = 0) (s : State) :
    SensorSound (raiseSensor e k s) := by
  rw [raiseSensor_eq]
  constructor
  case lock =>
    simp only [ne_eq, not_true_eq_false, iff_false]
    split
    next => exact Lock.noConfusion
    next h => exact h
  case step => obtain ⟨rfl, hk⟩ | ⟨rfl, rfl⟩ := he <;> simp_all
  case codes => obtain ⟨rfl, _⟩ | ⟨rfl, _⟩ := he <;> simp
  all_goals simp [inCritical, sdataDriveAt, bitsReceivedAt]

theorem finishSensor_sensorSound (s : State) : SensorSound (finishSensor s) := by
  rw [finishSensor_eq]
  constructor
  case lock =>
    simp only [ne_eq, not_true_eq_false, iff_false]
    split
    next => exact Lock.noConfusion
    next h => exact h
  all_goals simp [inCritical, sdataDriveAt, bitsReceivedAt]

/-- A position of the critical section followed by another: only the count of bits is new (R22, R134). -/
theorem SensorSound.moved (h : SensorSound s) (hq : inCritical s.sensor.seq = true) {t : State}
    (hq' : inCritical t.sensor.seq = true) (hctl : t.ctl = s.ctl) (hpins : t.pins = s.pins)
    (herr : t.sensor.serr = s.sensor.serr) (hstep : t.sensor.serrStep = s.sensor.serrStep)
    (hbits : ∀ n, bitsReceivedAt t.sensor.seq = some n → t.sensor.bitcnt = n) : SensorSound t := by
  have idle_out {q : SSeq} (hq : inCritical q = true) : q ≠ .idle := by rintro rfl; cases hq
  have input_in {q : SSeq} (hq : inCritical q = true) : sdataDriveAt q = .input := by
    cases q <;> simp_all [inCritical, sdataDriveAt]
  constructor
  case lock => rw [hctl, h.lock]; simp [idle_out hq, idle_out hq']
  case mask => rw [hctl, h.mask, hq, hq']
  case sdata => rw [hpins, h.sdata, input_in hq, input_in hq']
  case bits => exact hbits
  case codes => rw [herr]; exact h.codes
  case step => rw [herr, hstep]; exact h.step

/-- A wait step keeps the engine sound if what follows it does (R139, R292). -/
theorem waitThen_sensorSound {v : Bool} {onward : State → State} {k : Nat} (hk : waitStep s.sensor.seq = some k)
    (ho : SensorSound (onward (waitLevel v s))) : SensorSound (waitThen v onward s) := by
  obtain ⟨_, h⟩ | ⟨_, h⟩ := waitThen_cases v onward s <;> rw [h]
  · exact ho
  · rw [hk, Option.getD_some]
    exact raiseSensor_sensorSound (.inl ⟨rfl, waitStep_bounds hk⟩) _

theorem sensorTick_sensorSound (h : SensorSound s) (want : Option Nat) : SensorSound (sensorTick want s) := by
  have hlock := h.lock
  have hmask := h.mask
  have hsdata := h.sdata
  have hbits := h.bits
  have running {q q' : SSeq} (hlock : s.ctl.lock = .held .sensor ↔ q ≠ .idle) (hq : q ≠ .idle := by exact SSeq.noConfusion)
      (hq' : q' ≠ .idle := by exact SSeq.noConfusion) : s.ctl.lock = .held .sensor ↔ q' ≠ .idle :=
    hlock.trans (iff_of_true hq hq')
  unfold sensorTick
  cases hs : s.sensor.seq with rw [hs] at hlock hmask hsdata hbits
  | idle => exact h
  | wake => exact ⟨running hlock, hmask, rfl, nofun, h.codes, h.step⟩
  | release => exact ⟨running hlock, rfl, rfl, nofun, h.codes, h.step⟩
  | hs1 | hs2 =>
    refine waitThen_sensorSound (by rw [hs]; rfl) (h.moved (by rw [hs]; rfl) rfl rfl rfl rfl rfl nofun)
  | hs3 =>
    refine waitThen_sensorSound (by rw [hs]; rfl)
      (h.moved (by rw [hs]; rfl) rfl rfl rfl rfl rfl fun _ => Option.some.inj)
  | bitHi i => exact waitThen_sensorSound (by rw [hs]; rfl) (h.moved (by rw [hs]; rfl) rfl rfl rfl rfl rfl hbits)
  | bitSample i => exact h.moved (by rw [hs]; rfl) rfl rfl rfl rfl rfl fun _ => Option.some.inj
  | bitLo i =>
    refine waitThen_sensorSound (by rw [hs]; rfl) ?_
    unfold afterBit
    split
    next hi => exact h.moved (by rw [hs]; rfl) rfl rfl rfl rfl rfl hbits
    next hi =>
      have h40 : s.sensor.bitcnt = 40 := (hbits _ rfl).trans (by omega)
      exact ⟨running hlock, rfl, hsdata, fun n hn => h40.trans (Option.some.inj hn), h.codes, h.step⟩
  | check =>
    exact iteInduction (motive := SensorSound) (fun _ => finishSensor_sensorSound s)
      fun _ => raiseSensor_sensorSound (.inr ⟨rfl, rfl⟩) s

/-- Of the lock the sensor engine frees its own hold only (R70). -/
theorem sensorTick_lock_rtc (s : State) (want : Option Nat) :
    (sensorTick want s).ctl.lock = .held .rtc ↔ s.ctl.lock = .held .rtc := by
  have raised (e : ErrCode) (k : Nat) (u : State) :
      (raiseSensor e k u).ctl.lock = .held .rtc ↔ u.ctl.lock = .held .rtc := by
    rw [raiseSensor_eq]
    by_cases hl : u.ctl.lock = .held .sensor <;> simp [hl]
  have waited (v : Bool) (onward : State → State) (ho : ∀ u, (onward u).ctl.lock = u.ctl.lock) :
      (waitThen v onward s).ctl.lock = .held .rtc ↔ s.ctl.lock = .held .rtc := by
    obtain ⟨_, h⟩ | ⟨_, h⟩ := waitThen_cases v onward s <;> rw [h]
    · rw [ho]; rfl
    · rw [raised]; rfl
  unfold sensorTick
  cases s.sensor.seq with
  | idle | wake | release | bitSample => rfl
  | hs1 | hs2 | hs3 | bitHi => exact waited _ _ fun _ => rfl
  | bitLo i => exact waited _ _ fun u => by unfold afterBit; split <;> rfl
  | check =>
    refine iteInduction (motive := fun u : State => u.ctl.lock = .held .rtc ↔ s.ctl.lock = .held .rtc) (fun _ => ?_)
      fun _ => raised _ _ s
    rw [finishSensor_eq]
    by_cases hl : s.ctl.lock = .held .sensor <;> simp [hl]

theorem sensorTick_sound (h : Sound s) (want : Option Nat) : Sound (sensorTick want s) where
  sensor := sensorTick_sensorSound h.sensor want
  clock := h.clock.kept (sensorTick_writesOnly s want) (by decide) (sensorTick_lock_rtc s want)
  wire := h.wire.kept (sensorTick_writesOnly s want) (by decide)
  event := h.event.kept (sensorTick_writesOnly s want) (by decide) (sensorTick_onward want s)

theorem runSensor_sound (h : Sound s) (n : Nat) : Sound (runSensor n s) := by
  induction n generalizing s with
  | zero => exact h
  | succ n ih =>
    rw [runSensor]
    split
    · exact h
    · exact ih (sensorTick_sound h none)

theorem startSensor_sound (h : Sound s) (hready : sensorReady s = true) : Sound (startSensor s) := by
  simp only [sensorReady, Bool.and_eq_true, decide_eq_true_eq] at hready
  obtain ⟨hfree, hidle⟩ := hready
  have hmask := h.sensor.mask
  rw [hidle] at hmask
  refine ⟨⟨by simp [startSensor], hmask, rfl, nofun, h.sensor.codes, h.sensor.step⟩, ?_, ?_, ?_⟩
  · refine h.clock.kept (startSensor_writesOnly s) (by decide) ?_
    simp [startSensor, hfree]
  · exact h.wire.kept (startSensor_writesOnly s) (by decide)
  · exact h.event.kept (startSensor_writesOnly s) (by decide) (startSensor_onward s)

end SensorEngine

end Sys2Proof.Machine
namespace Sys2Proof.Machine

/-! ### A byte on the RTC bus -/

/-- RIO must be released before the micro-step `q` of a byte with `n` in C_BITCNT: in a byte received, and in a read's
command after the turn-around in its eighth clock (R164, R167). -/
def ReleasedAt (k : ByteKind) (q : BitPhase) (n : Nat) : Prop :=
  match k with
  | .into => True
  | .out _ true => 7 ≤ n ∧ (q = .high ∨ q = .fall)
  | .out _ false => False

/-- What the invariant says of the byte `k` before its micro-step `q`, wherever it stands (R26, R163, R164, R167). -/
structure ByteSound (k : ByteKind) (q : BitPhase) (s : State) : Prop where
  fits : inByte k q = true
  rclk : s.pins.rclk = clockHigh (.data q)
  counted : q ≠ .load → s.rtc.bitcnt < 8
  shift : q ≠ .load → ∀ b turn, k = .out b turn → s.rtc.shift = b
  turn : q = .turn → s.rtc.bitcnt = 7
  rio : ReleasedAt k q s.rtc.bitcnt → s.pins.rio = .input

/-- A micro-step of a sound byte leads to the next one of it (R163, R164, R167). -/
theorem bitAct_byteSound {k : ByteKind} {q q' : BitPhase} {s : State} (h : ByteSound k q s)
    (hn : nextPhase k q (bitAct k q s).rtc.bitcnt = some q') : ByteSound k q' (bitAct k q s) := by
  obtain ⟨fits, rclk, counted, shift, turn, rio⟩ := h
  cases q with
  | load | drive | sample | turn | high =>
    cases hn
    rcases k with ⟨b, _ | _⟩ | _ <;> constructor <;>
      simp_all [inByte, clockHigh, bitAct, ByteKind.start, ByteKind.bitStart, ReleasedAt]
  | low =>
    rcases k with ⟨b, _ | _⟩ | _ <;> cases hn <;> constructor <;> simp_all [inByte, clockHigh, bitAct, ReleasedAt]
  | rise =>
    rcases k with ⟨b, _ | _⟩ | _
    case out.true =>
      rw [nextPhase_rise_out] at hn
      cases hn
      have hlt := counted BitPhase.noConfusion
      by_cases h7 : s.rtc.bitcnt = 7
      · constructor <;> simp_all [inByte, clockHigh, bitAct, ReleasedAt]
      · have hle : s.rtc.bitcnt < 7 := by omega
        constructor <;> simp_all [inByte, clockHigh, bitAct, ReleasedAt]
    all_goals
      cases hn
      constructor <;> simp_all [inByte, clockHigh, bitAct, ReleasedAt]
  | fall =>
    by_cases hlt : s.rtc.bitcnt + 1 < 8
    · have hnext : nextPhase k .fall (bitAct k .fall s).rtc.bitcnt = some k.bitStart := if_pos hlt
      cases hnext.symm.trans hn
      rcases k with ⟨b, _ | _⟩ | _ <;> constructor <;>
        simp_all [inByte, clockHigh, bitAct, ByteKind.bitStart, ReleasedAt]
    · have hnext : nextPhase k .fall (bitAct k .fall s).rtc.bitcnt = none := if_neg hlt
      cases hnext.symm.trans hn

/-- The last micro-step of a sound byte is the fall of its eighth clock (R163, R164). -/
theorem ByteSound.last {k : ByteKind} {q : BitPhase} {s : State} (h : ByteSound k q s)
    (hn : nextPhase k q (bitAct k q s).rtc.bitcnt = none) : q = .fall ∧ s.rtc.bitcnt = 7 := by
  cases q with
  | fall =>
    have hlt := h.counted BitPhase.noConfusion
    have hge : ¬ s.rtc.bitcnt < 7 := fun hlt7 => nomatch (nextPhase_fall k hlt7).symm.trans hn
    exact ⟨rfl, by omega⟩
  | rise =>
    rcases k with ⟨b, turn⟩ | _
    · cases (nextPhase_rise_out b turn _).symm.trans hn
    · cases hn
  | low => rcases k with _ | _ <;> cases hn
  | load | drive | sample | turn | high => cases hn

/-- Before its load nothing of a byte has happened but that the clock is low. -/
theorem byteSound_load {k : ByteKind} {s : State} (hclk : s.pins.rclk = false) (hrio : k = .into → s.pins.rio = .input) :
    ByteSound k .load s where
  fits := by cases k <;> rfl
  rclk := hclk
  counted h := absurd rfl h
  shift h := absurd rfl h
  turn := nofun
  rio h := by
    rcases k with ⟨b, _ | _⟩ | _
    · exact h.elim
    · obtain ⟨_, h | h⟩ := h <;> cases h
    · exact hrio rfl

/-! ### The places of a byte -/

/-- The byte at hand and the micro-step that is next in it: the command of a read, the two bytes of a pair, a data byte
of a read (R165, R166). -/
def byteAt (s : State) : Option (ByteKind × BitPhase) :=
  match s.rtc.seq, s.rtc.phase with
  | .rCmd, .command q => some (.out s.cfg.cmdBurstRead true, q)
  | .wPair p, .command q => some (.out (pairCommand s.cfg p) false, q)
  | .wPair p, .data q => some (.out (pairData s.cfg s.rtc.wbuf p) false, q)
  | .rData _, .data q => some (.into, q)
  | _, _ => none

/-- What the functions of the invariant say of a byte at its place. -/
theorem byteAt_facts {s : State} {k : ByteKind} {q : BitPhase} (h : byteAt s = some (k, q)) :
    phaseFits s = inByte k q ∧ windowOpen s.rtc.phase = true ∧ clockHigh s.rtc.phase = clockHigh (.data q) ∧
      byteInFlight s = (if q = .load then none else some (k, q)) ∧
      (mayDriveRio s = false ↔ ReleasedAt k q s.rtc.bitcnt) := by
  unfold byteAt at h
  split at h
  case h_1 q hs hp | h_2 _ q hs hp | h_3 _ q hs hp | h_4 _ q hs hp =>
    cases h
    simp only [phaseFits, byteInFlight, mayDriveRio, commandKind, dataKind, hs, hp]
    cases q <;> simp [windowOpen, clockHigh, ReleasedAt]
  case h_5 => cases h

/-- At its place a byte is what the invariant's fields on the wires speak of. -/
theorem wireSound_iff_byte {s : State} {k : ByteKind} {q : BitPhase} (h : byteAt s = some (k, q)) :
    WireSound s ↔ s.pins.rce = true ∧ ByteSound k q s := by
  obtain ⟨hfits, hopen, hclk, hflight, hrio⟩ := byteAt_facts h
  constructor
  · rintro ⟨fits, rce, rclk, rio, counted, turn⟩
    have hin (hq : q ≠ .load) : byteInFlight s = some (k, q) := hflight.trans (if_neg hq)
    exact ⟨rce.trans hopen, hfits ▸ fits, hclk ▸ rclk, fun hq => (counted k q (hin hq)).1,
      fun hq => (counted k q (hin hq)).2, fun hq => turn k (hq ▸ hin (by simp [hq])), fun hr => rio (hrio.mpr hr)⟩
  · rintro ⟨rce, fits, rclk, counted, shift, turn, rio⟩
    have hout {k' : ByteKind} {q' : BitPhase} (hb : byteInFlight s = some (k', q')) : q ≠ .load ∧ k = k' ∧ q = q' := by
      rw [hflight] at hb
      split at hb
      next => cases hb
      next hq => cases hb; exact ⟨hq, rfl, rfl⟩
    refine ⟨hfits.trans fits, rce.trans hopen.symm, rclk.trans hclk.symm, fun hd => rio (hrio.mp hd), ?_, ?_⟩
    · intro k' q' hb
      obtain ⟨hq, rfl, rfl⟩ := hout hb
      exact ⟨counted hq, shift hq⟩
    · intro k' hb
      obtain ⟨-, -, rfl⟩ := hout hb
      exact turn rfl

/-- Outside its bytes the invariant speaks of the three wires only. -/
theorem wireSound_outside {s : State} (hp : (∀ q, s.rtc.phase ≠ .command q) ∧ ∀ q, s.rtc.phase ≠ .data q)
    (hfits : phaseFits s = true) (hrce : s.pins.rce = windowOpen s.rtc.phase) (hclk : s.pins.rclk = false)
    (hrio : mayDriveRio s = false → s.pins.rio = .input) : WireSound s := by
  obtain ⟨hcommand, hdata⟩ := hp
  have hnone : byteInFlight s = none := by
    unfold byteInFlight
    split <;> simp_all
  refine ⟨hfits, hrce, ?_, hrio, fun k q hb => ?_, fun k hb => ?_⟩
  · rw [hclk]
    unfold clockHigh
    split <;> simp_all
  · exact nomatch hnone.symm.trans hb
  · exact nomatch hnone.symm.trans hb

/-! ### The micro-steps of the RTC engine -/

/-- Where the engine stands in a window or between two of them: the micro-steps of its position (R161, R165, R166). -/
inductive WindowPlace (s : State) : Prop
  | opening (hs : s.rtc.seq = .rCmd ∨ ∃ p, s.rtc.seq = .wPair p) (hp : s.rtc.phase = .rest ∨ s.rtc.phase = .lead)
  | byte {k : ByteKind} {q : BitPhase} (hb : byteAt s = some (k, q))
  | readEnd (hs : s.rtc.seq = .rData 7)
      (hp : s.rtc.phase = .trail ∨ s.rtc.phase = .close ∨ s.rtc.phase = .finish)
  | pairEnd {p : Fin 9} (hs : s.rtc.seq = .wPair p)
      (hp : s.rtc.phase = .trail ∨ s.rtc.phase = .close ∨ s.rtc.phase = .settle)
  | writeEnd (hs : s.rtc.seq = .wPair 8) (hp : s.rtc.phase = .finish)

theorem windowPlace {s : State} (hfits : phaseFits s = true) (hh : rtcHolds s.rtc.seq = true) : WindowPlace s := by
  cases hs : s.rtc.seq with
  | idle | rDecode | wCheck => simp [hs, rtcHolds] at hh
  | rCmd =>
    cases hp : s.rtc.phase with
    | rest => exact .opening (.inl hs) (.inl hp)
    | lead => exact .opening (.inl hs) (.inr hp)
    | command q => exact .byte (by rw [byteAt, hs, hp])
    | data | trail | close | settle | finish => simp [phaseFits, hs, hp] at hfits
  | rData j =>
    have hj (h : j.val = 7) : s.rtc.seq = .rData 7 := hs.trans (congrArg _ (Fin.ext h))
    cases hp : s.rtc.phase with
    | rest | lead | command | settle => simp [phaseFits, hs, hp] at hfits
    | data q => exact .byte (by rw [byteAt, hs, hp])
    | trail => exact .readEnd (hj (by simpa [phaseFits, hs, hp] using hfits)) (.inl hp)
    | close => exact .readEnd (hj (by simpa [phaseFits, hs, hp] using hfits)) (.inr (.inl hp))
    | finish => exact .readEnd (hj (by simpa [phaseFits, hs, hp] using hfits)) (.inr (.inr hp))
  | wPair p =>
    cases hp : s.rtc.phase with
    | rest => exact .opening (.inr ⟨p, hs⟩) (.inl hp)
    | lead => exact .opening (.inr ⟨p, hs⟩) (.inr hp)
    | command q => exact .byte (by rw [byteAt, hs, hp])
    | data q => exact .byte (by rw [byteAt, hs, hp])
    | trail => exact .pairEnd hs (.inl hp)
    | close => exact .pairEnd hs (.inr (.inl hp))
    | settle => exact .pairEnd hs (.inr (.inr hp))
    | finish =>
      have h8 : p.val = 8 := by simpa [phaseFits, hs, hp] using hfits
      exact .writeEnd (hs.trans (congrArg _ (Fin.ext h8))) hp

/-- The engine's registers and its wires are sound. -/
structure RtcSound (s : State) : Prop where
  clock : ClockSound s
  wire : WireSound s

/-- The engine goes on in its operation: the result registers, the operand and the lock stay. -/
theorem ClockSound.moved {s t : State} (h : ClockSound s) (hctl : t.ctl = s.ctl)
    (hhold : rtcHolds t.rtc.seq = rtcHolds s.rtc.seq) (hcerr : t.rtc.cerr = s.rtc.cerr)
    (hvalid : t.rtc.valid = s.rtc.valid) (hclock : t.rtc.clock = s.rtc.clock) (hwbuf : t.rtc.wbuf = s.rtc.wbuf)
    (hwrite : (t.rtc.seq = .wCheck ∨ ∃ p, t.rtc.seq = .wPair p) → s.rtc.seq = .wCheck ∨ ∃ p, s.rtc.seq = .wPair p) :
    ClockSound t where
  lock := by rw [hctl, hhold]; exact h.lock
  codes := by rw [hcerr]; exact h.codes
  range := by rw [hvalid, hclock]; exact h.range
  write hw := by rw [hwbuf]; exact h.write (hwrite hw)

/-- So it does in a micro-step that stays at its position. -/
theorem ClockSound.stayed {s t : State} (h : ClockSound s) (hctl : t.ctl = s.ctl) (hseq : t.rtc.seq = s.rtc.seq)
    (hcerr : t.rtc.cerr = s.rtc.cerr) (hvalid : t.rtc.valid = s.rtc.valid) (hclock : t.rtc.clock = s.rtc.clock)
    (hwbuf : t.rtc.wbuf = s.rtc.wbuf) : ClockSound t :=
  h.moved hctl (by rw [hseq]) hcerr hvalid hclock hwbuf (by rw [hseq]; exact id)

section Ticks

variable {s : State} (h : RtcSound s)
include h

/-- The window opens (R161, R165, R166). -/
theorem rtcTick_opening_sound (hs : s.rtc.seq = .rCmd ∨ ∃ p, s.rtc.seq = .wPair p)
    (hp : s.rtc.phase = .rest ∨ s.rtc.phase = .lead) : RtcSound (rtcTick s) := by
  have hh : rtcHolds s.rtc.seq = true := by
    obtain hs | ⟨p, hs⟩ := hs <;> rw [hs] <;> rfl
  have hin : s.pins.rio = .input := h.wire.rio (by
    obtain hs | ⟨p, hs⟩ := hs <;> obtain hp | hp := hp <;> simp [mayDriveRio, hs, hp])
  obtain hp | hp := hp
  · have hclk : s.pins.rclk = false := by rw [h.wire.rclk, hp]; rfl
    rw [rtcTick_rest hh hp]
    refine ⟨h.clock.stayed rfl rfl rfl rfl rfl rfl, wireSound_outside ⟨nofun, nofun⟩ ?_ rfl hclk fun _ => hin⟩
    obtain hs | ⟨p, hs⟩ := hs <;> simp [phaseFits, hs]
  · have hclk : s.pins.rclk = false := by rw [h.wire.rclk, hp]; rfl
    have hrce : s.pins.rce = true := by rw [h.wire.rce, hp]; rfl
    rw [rtcTick_lead hh hp]
    refine ⟨h.clock.stayed rfl rfl rfl rfl rfl rfl, ?_⟩
    obtain hs | ⟨p, hs⟩ := hs
    · exact (wireSound_iff_byte (k := .out _ true) (by simp only [byteAt, phaseTo_rtc, delay_rtc, hs]; rfl)).mpr
        ⟨hrce, byteSound_load hclk nofun⟩
    · exact (wireSound_iff_byte (k := .out _ false) (by simp only [byteAt, phaseTo_rtc, delay_rtc, hs]; rfl)).mpr
        ⟨hrce, byteSound_load hclk nofun⟩

/-- Within a byte (R163, R164). -/
theorem rtcTick_byte_sound {k : ByteKind} {q q' : BitPhase} (hb : byteAt s = some (k, q))
    (hn : nextPhase k q (bitAct k q s).rtc.bitcnt = some q') : RtcSound (rtcTick s) := by
  obtain ⟨hrce, hbyte⟩ := (wireSound_iff_byte hb).mp h.wire
  have hnext := bitAct_byteSound hbyte hn
  have hrce' : (bitAct k q s).pins.rce = true := by rw [← hrce]; cases q <;> rfl
  have hclock : ClockSound (bitAct k q s) := by cases q <;> exact h.clock.stayed rfl rfl rfl rfl rfl rfl
  obtain ⟨ph, e, hat⟩ : ∃ ph, rtcTick s = phaseTo ph (bitAct k q s) ∧ byteAt (rtcTick s) = some (k, q') := by
    unfold byteAt at hb
    split at hb
    case h_1 q hs hp =>
      cases hb
      have e := rtcTick_byteOut (.inr ⟨rfl, hs, rfl, rfl⟩) hp hn
      exact ⟨_, e, by simp only [e, byteAt, phaseTo_rtc, phaseTo_cfg, bitAct_seq, bitAct_cfg, hs]⟩
    case h_2 p q hs hp =>
      cases hb
      have e := rtcTick_byteOut (.inl ⟨rfl, p, hs, .inl ⟨rfl, rfl⟩⟩) hp hn
      exact ⟨_, e, by simp only [e, byteAt, phaseTo_rtc, phaseTo_cfg, bitAct_seq, bitAct_cfg, hs]⟩
    case h_3 p q hs hp =>
      cases hb
      have e := rtcTick_byteOut (.inl ⟨rfl, p, hs, .inr ⟨rfl, rfl⟩⟩) hp hn
      exact ⟨_, e, by simp only [e, byteAt, phaseTo_rtc, phaseTo_cfg, bitAct_seq, bitAct_cfg, bitAct_wbuf, hs]⟩
    case h_4 j q hs hp =>
      cases hb
      have e := rtcTick_byteIn hs hp hn
      exact ⟨_, e, by simp only [e, byteAt, phaseTo_rtc, bitAct_seq, hs]⟩
    case h_5 => cases hb
  rw [e] at hat ⊢
  exact ⟨hclock.stayed rfl rfl rfl rfl rfl rfl,
    (wireSound_iff_byte hat).mpr ⟨hrce', hnext.fits, hnext.rclk, hnext.counted, hnext.shift, hnext.turn, hnext.rio⟩⟩

/-- The last micro-step of a byte, and what follows the byte (R165, R166). -/
theorem rtcTick_lastBit_sound {k : ByteKind} (hb : byteAt s = some (k, .fall)) (h7 : s.rtc.bitcnt = 7) :
    RtcSound (rtcTick s) := by
  obtain ⟨hrce, hbyte⟩ := (wireSound_iff_byte hb).mp h.wire
  unfold byteAt at hb
  split at hb
  case h_1 q hs hp =>
    cases hb
    have hin : s.pins.rio = .input := hbyte.rio ⟨Nat.le_of_eq h7.symm, .inr rfl⟩
    rw [rtcTick_command (rtcHolds_readCommand hs) hp, byteTick_last h7, afterCommand_read (by exact hs)]
    exact ⟨h.clock.moved rfl (by rw [hs]; rfl) rfl rfl rfl rfl nofun,
      (wireSound_iff_byte rfl).mpr ⟨hrce, byteSound_load rfl fun _ => hin⟩⟩
  case h_2 p q hs hp =>
    cases hb
    rw [rtcTick_command (rtcHolds_pair hs) hp, byteTick_last h7, afterCommand_pair (by exact hs)]
    exact ⟨h.clock.stayed rfl rfl rfl rfl rfl rfl,
      (wireSound_iff_byte (k := .out _ false) (by simp only [byteAt, phaseTo_rtc, hs]; rfl)).mpr
        ⟨hrce, byteSound_load rfl nofun⟩⟩
  case h_3 p q hs hp =>
    cases hb
    rw [rtcTick_data (rtcHolds_pair hs) hp, byteTick_last h7, afterData_pair (by exact hs)]
    exact ⟨h.clock.stayed rfl rfl rfl rfl rfl rfl, wireSound_outside ⟨nofun, nofun⟩ (by simp [phaseFits, hs]) hrce rfl
      (by simp [mayDriveRio, hs])⟩
  case h_4 j q hs hp =>
    cases hb
    have hin : s.pins.rio = .input := hbyte.rio trivial
    rw [rtcTick_data (rtcHolds_readData hs) hp, byteTick_last h7, afterData_read (by exact hs)]
    by_cases hj : j.val + 1 < 8
    · rw [dif_pos hj, if_pos hj]
      exact ⟨h.clock.moved rfl (by rw [hs]; rfl) rfl rfl rfl rfl nofun,
        (wireSound_iff_byte rfl).mpr ⟨hrce, byteSound_load rfl fun _ => hin⟩⟩
    · rw [dif_neg hj, if_neg hj]
      have hj7 : j.val = 7 := by omega
      exact ⟨h.clock.moved rfl (by rw [hs]; rfl) rfl rfl rfl rfl nofun,
        wireSound_outside ⟨nofun, nofun⟩ (by simp [phaseFits, hj7]) hrce rfl fun _ => hin⟩
  case h_5 => cases hb

/-- The end of a read's window, and the lock freed before the decode (R166, R170, R174). -/
theorem rtcTick_readEnd_sound (hs : s.rtc.seq = .rData 7)
    (hp : s.rtc.phase = .trail ∨ s.rtc.phase = .close ∨ s.rtc.phase = .finish) : RtcSound (rtcTick s) := by
  have hh := rtcHolds_readData hs
  have hclk : s.pins.rclk = false := by rw [h.wire.rclk]; obtain hp | hp | hp := hp <;> rw [hp] <;> rfl
  have hin : s.pins.rio = .input := h.wire.rio (by simp [mayDriveRio, hs])
  obtain hp | hp | hp := hp
  · have hrce : s.pins.rce = true := by rw [h.wire.rce, hp]; rfl
    rw [rtcTick_trail hh hp]
    exact ⟨h.clock.stayed rfl rfl rfl rfl rfl rfl,
      wireSound_outside ⟨nofun, nofun⟩ (by simp [phaseFits, hs]) hrce hclk fun _ => hin⟩
  · rw [rtcTick_close hh hp, closeTick_read hs]
    exact ⟨h.clock.stayed rfl rfl rfl rfl rfl rfl,
      wireSound_outside ⟨nofun, nofun⟩ (by simp [phaseFits, hs]) rfl hclk fun _ => hin⟩
  · have hrce : s.pins.rce = false := by rw [h.wire.rce, hp]; rfl
    have hl : s.ctl.lock = .held .rtc := h.clock.lock.mpr hh
    rw [rtcTick_finish hh hp, finishTick_read hs, releaseLock_eq, if_pos hl]
    exact ⟨⟨by simp [rtcHolds], h.clock.codes, h.clock.range, by simp⟩,
      wireSound_outside ⟨nofun, nofun⟩ rfl hrce hclk fun _ => hin⟩

/-- The end of a pair's window, and the next pair or the end of the write (R165, R180). -/
theorem rtcTick_pairEnd_sound {p : Fin 9} (hs : s.rtc.seq = .wPair p)
    (hp : s.rtc.phase = .trail ∨ s.rtc.phase = .close ∨ s.rtc.phase = .settle) : RtcSound (rtcTick s) := by
  have hh := rtcHolds_pair hs
  have hclk : s.pins.rclk = false := by rw [h.wire.rclk]; obtain hp | hp | hp := hp <;> rw [hp] <;> rfl
  obtain hp | hp | hp := hp
  · have hrce : s.pins.rce = true := by rw [h.wire.rce, hp]; rfl
    rw [rtcTick_trail hh hp]
    exact ⟨h.clock.stayed rfl rfl rfl rfl rfl rfl,
      wireSound_outside ⟨nofun, nofun⟩ (by simp [phaseFits, hs]) hrce hclk (by simp [mayDriveRio, hs])⟩
  · rw [rtcTick_close hh hp, closeTick_pair hs]
    exact ⟨h.clock.stayed rfl rfl rfl rfl rfl rfl,
      wireSound_outside ⟨nofun, nofun⟩ (by simp [phaseFits, hs]) rfl hclk (by simp [mayDriveRio, hs])⟩
  · have hrce : s.pins.rce = false := by rw [h.wire.rce, hp]; rfl
    rw [rtcTick_settle hh hp]
    by_cases hlast : p.val + 1 < 9
    · rw [settleTick_next hs hlast]
      exact ⟨h.clock.moved rfl (by rw [hs]; rfl) rfl rfl rfl rfl fun _ => .inr ⟨p, hs⟩,
        wireSound_outside ⟨nofun, nofun⟩ rfl hrce hclk fun _ => rfl⟩
    · have h8 : p.val = 8 := by omega
      rw [settleTick_last hs h8]
      exact ⟨h.clock.stayed rfl rfl rfl rfl rfl rfl,
        wireSound_outside ⟨nofun, nofun⟩ (by simp [phaseFits, hs, h8]) hrce hclk fun _ => rfl⟩

/-- OK, and the lock freed after the ninth pair (R180, R183). -/
theorem rtcTick_writeEnd_sound (hs : s.rtc.seq = .wPair 8) (hp : s.rtc.phase = .finish) : RtcSound (rtcTick s) := by
  have hh := rtcHolds_pair hs
  have hclk : s.pins.rclk = false := by rw [h.wire.rclk, hp]; rfl
  have hrce : s.pins.rce = false := by rw [h.wire.rce, hp]; rfl
  have hin : s.pins.rio = .input := h.wire.rio (by simp [mayDriveRio, hs, hp])
  rw [rtcTick_finish hh hp, finishTick_pair hs, finishWrite_eq (h.clock.lock.mpr hh)]
  exact ⟨⟨by simp [rtcHolds], .inl rfl, h.clock.range, by simp⟩,
    wireSound_outside ⟨nofun, nofun⟩ rfl hrce hclk fun _ => hin⟩

/-- At a position without a window the wires are idle (R43). -/
theorem RtcSound.idle_wires (hh : rtcHolds s.rtc.seq = false) :
    s.rtc.phase = .rest ∧ s.pins.rce = false ∧ s.pins.rclk = false ∧ s.pins.rio = .input := by
  have hfits := h.wire.fits
  have hrest : s.rtc.phase = .rest := by
    cases hs : s.rtc.seq with
    | rCmd | rData | wPair => simp [hs, rtcHolds] at hh
    | idle | rDecode | wCheck => cases hp : s.rtc.phase <;> simp [phaseFits, hs, hp] at hfits; rfl
  refine ⟨hrest, by rw [h.wire.rce, hrest]; rfl, by rw [h.wire.rclk, hrest]; rfl, h.wire.rio ?_⟩
  simp [mayDriveRio, hrest]

/-- Between two operations the wires are idle whatever position without a window comes next (R43). -/
theorem wireSound_idle {t : State} (hh : rtcHolds s.rtc.seq = false) (hh' : rtcHolds t.rtc.seq = false)
    (hphase : t.rtc.phase = s.rtc.phase) (hpins : t.pins = s.pins) : WireSound t := by
  obtain ⟨hrest, hrce, hclk, hin⟩ := h.idle_wires hh
  rw [hrest] at hphase
  have hfits : phaseFits t = true := by
    cases hs : t.rtc.seq with
    | rCmd | rData | wPair => simp [hs, rtcHolds] at hh'
    | idle | rDecode | wCheck => simp [phaseFits, hs, hphase]
  exact wireSound_outside (by simp [hphase]) hfits (by rw [hpins, hrce, hphase]; rfl) (by rw [hpins, hclk])
    fun _ => by rw [hpins, hin]

/-- The decode writes a clock in range, or none (R170 to R174). -/
theorem decodeClock_sound (hs : s.rtc.seq = .rDecode) : RtcSound (decodeClock s) := by
  have hh : rtcHolds s.rtc.seq = false := by rw [hs]; rfl
  have hfree : s.ctl.lock ≠ .held .rtc := fun hl => by simp [h.clock.lock.mp hl] at hh
  cases hd : clockDec s.cfg s.rtc.cbuf with
  | some v =>
    rw [decodeClock_some hd]
    refine ⟨⟨by simp [rtcHolds, hfree], .inl rfl, fun _ => ?_, by simp⟩, wireSound_idle h hh rfl rfl rfl⟩
    cases hhour : hourDec s.cfg.hour12 (s.rtc.cbuf[2] &&& s.cfg.mask[2]) with
    | none => cases (clockDec_no_hour hhour).symm.trans hd
    | some hour =>
      rw [clockDec_hour hhour] at hd
      split at hd
      next => cases hd
      next hin =>
        cases hd
        simp only
        omega
  | none =>
    rw [decodeClock_none hd]
    exact ⟨⟨by simp [rtcHolds, hfree, raiseReadClock], .inr rfl, nofun, by simp [raiseReadClock]⟩,
      wireSound_idle h hh rfl rfl rfl⟩

/-- The lock taken at `W_CHECK` (R70, R180). -/
theorem rtcTick_wCheck_sound (hs : s.rtc.seq = .wCheck) : RtcSound (rtcTick s) := by
  by_cases hl : s.ctl.lock = .free
  · obtain ⟨-, hrce, hclk, hin⟩ := h.idle_wires (by rw [hs]; rfl)
    rw [rtcTick_wCheck hs hl]
    exact ⟨⟨by simp [rtcHolds], h.clock.codes, h.clock.range, fun _ => h.clock.write (.inl hs)⟩,
      wireSound_outside ⟨nofun, nofun⟩ rfl hrce hclk fun _ => hin⟩
  · rw [rtcTick_blocked hs hl]
    exact h

/-- Every micro-step of the RTC engine keeps it sound (R161 to R167, R170, R180). -/
theorem rtcTick_rtcSound : RtcSound (rtcTick s) := by
  cases hs : s.rtc.seq with
  | idle => simpa only [rtcTick, hs] using h
  | rDecode => rw [rtcTick_decode hs]; exact decodeClock_sound h hs
  | wCheck => exact rtcTick_wCheck_sound h hs
  | rCmd | rData | wPair =>
    obtain ⟨hs', hp⟩ | @⟨k, q, hb⟩ | ⟨hs', hp⟩ | ⟨hs', hp⟩ | ⟨hs', hp⟩ :=
      windowPlace h.wire.fits (s := s) (by rw [hs]; rfl)
    · exact rtcTick_opening_sound h hs' hp
    · obtain ⟨-, hbyte⟩ := (wireSound_iff_byte hb).mp h.wire
      cases hn : nextPhase k q (bitAct k q s).rtc.bitcnt with
      | some q' => exact rtcTick_byte_sound h hb hn
      | none =>
        obtain ⟨rfl, h7⟩ := hbyte.last hn
        exact rtcTick_lastBit_sound h hb h7
    · exact rtcTick_readEnd_sound h hs' hp
    · exact rtcTick_pairEnd_sound h hs' hp
    · exact rtcTick_writeEnd_sound h hs' hp

end Ticks

end Sys2Proof.Machine
namespace Sys2Proof.Machine

/-! ### The RTC engine leaves the sensor engine its lock -/

section Lock

variable (s : State)

theorem bitAct_ctl (k : ByteKind) (q : BitPhase) : (bitAct k q s).ctl = s.ctl := by cases q <;> rfl

theorem byteTick_ctl (k : ByteKind) (put : BitPhase → CPhase) {done : State → State}
    (hd : ∀ u, (done u).ctl = u.ctl) (q : BitPhase) : (byteTick k put done q s).ctl = s.ctl := by
  unfold byteTick
  split
  · exact bitAct_ctl s k q
  · rw [hd, bitAct_ctl]

theorem afterCommand_ctl : (afterCommand s).ctl = s.ctl := by
  unfold afterCommand
  split <;> rfl

theorem afterData_ctl : (afterData s).ctl = s.ctl := by
  unfold afterData
  repeat' split
  all_goals rfl

theorem closeTick_ctl : (closeTick s).ctl = s.ctl := by
  unfold closeTick
  split <;> rfl

theorem settleTick_ctl : (settleTick s).ctl = s.ctl := by
  unfold settleTick
  repeat' split
  all_goals rfl

theorem releaseLock_rtc_sensor : (releaseLock .rtc s).ctl.lock = .held .sensor ↔ s.ctl.lock = .held .sensor := by
  rw [releaseLock_eq]
  by_cases hl : s.ctl.lock = .held .rtc <;> simp [hl]

theorem finishTick_lock_sensor : (finishTick s).ctl.lock = .held .sensor ↔ s.ctl.lock = .held .sensor := by
  unfold finishTick
  split
  · exact releaseLock_rtc_sensor (rtcTo .idle .rest { s with rtc.cerr := .ok })
  · exact releaseLock_rtc_sensor s

theorem windowTick_lock_sensor : (windowTick s).ctl.lock = .held .sensor ↔ s.ctl.lock = .held .sensor := by
  unfold windowTick
  cases s.rtc.phase with
  | rest | lead | trail => rfl
  | command q => rw [byteTick_ctl s _ _ afterCommand_ctl]
  | data q => rw [byteTick_ctl s _ _ afterData_ctl]
  | close => rw [closeTick_ctl]
  | settle => rw [settleTick_ctl]
  | finish => exact finishTick_lock_sensor s

/-- Of the lock the RTC engine takes a free one and frees its own hold (R70). -/
theorem rtcTick_lock_sensor : (rtcTick s).ctl.lock = .held .sensor ↔ s.ctl.lock = .held .sensor := by
  cases hs : s.rtc.seq with
  | idle => simp only [rtcTick, hs]
  | rDecode =>
    obtain ⟨_, _, _, _, h⟩ := decodeClock_writes s
    rw [rtcTick_decode hs, h]
  | wCheck =>
    by_cases hl : s.ctl.lock = .free
    · rw [rtcTick_wCheck hs hl]
      simp [hl]
    · rw [rtcTick_blocked hs hl]
  | rCmd | rData | wPair =>
    rw [rtcTick_window (by rw [hs]; rfl)]
    exact windowTick_lock_sensor s

end Lock

/-! ### Operations of the two engines on a sound state -/

section Engines

variable {s : State} (h : Sound s)
include h

theorem Sound.rtc : RtcSound s := ⟨h.clock, h.wire⟩

theorem rtcTick_sound : Sound (rtcTick s) where
  sensor := h.sensor.kept (rtcTick_writesOnly s) (by decide) (rtcTick_lock_sensor s)
  clock := (rtcTick_rtcSound h.rtc).clock
  wire := (rtcTick_rtcSound h.rtc).wire
  event := h.event.kept (rtcTick_writesOnly s) (by decide) (rtcTick_onward s)

omit h in
theorem runRtc_sound (n : Nat) : ∀ {s : State}, Sound s → Sound (runRtc n s) := by
  induction n with
  | zero => exact fun h => h
  | succ n ih =>
    intro s h
    rw [runRtc]
    split
    · exact h
    · exact ih (rtcTick_sound h)

omit h in
theorem untilByte_sound (n : Nat) : ∀ {s : State}, Sound s → Sound (untilByte n s) := by
  induction n with
  | zero => exact fun h => h
  | succ n ih =>
    intro s h
    rw [untilByte]
    split
    · exact rtcTick_sound h
    · exact ih (rtcTick_sound h)

theorem rtcByte_sound : Sound (rtcByte s) := untilByte_sound 48 h

end Engines

/-- The parts that the invariant does not speak of; TIME may only move on (R45). -/
def silentParts : List Part :=
  [.pend, .ctx, .waiting, .readers, .encPins, .btnPin, .time, .sensorIn, .rioIn, .keep, .script, .aux, .history, .rioLog]

/-- The parts of the decoder, the latch and the event channel, with those. -/
def eventParts : List Part := [.qPrev, .qAcc, .qLast, .rotEn, .latch, .bLast, .slot, .record] ++ silentParts

section Kept

variable {s t : State} (h : Sound s)
include h

/-- An operation of the handlers and of the event channel leaves both engines as they are (R258, R296). -/
theorem Sound.withEvents (hw : WritesOnly eventParts s t) (he : EventSound t) : Sound t where
  sensor := h.sensor.kept hw (by decide) (by rw [show t.ctl.lock = s.ctl.lock from hw .lock (by decide)])
  clock := h.clock.kept hw (by decide) (by rw [show t.ctl.lock = s.ctl.lock from hw .lock (by decide)])
  wire := h.wire.kept hw (by decide)
  event := he

theorem Sound.silent (hw : WritesOnly silentParts s t) (ho : Onward s t) : Sound t :=
  h.withEvents (hw.mono (List.subset_append_right _ _)) (h.event.kept hw (by decide) ho)

theorem enqueue_sound (r : Request) : Sound (enqueue r s) :=
  h.silent ((enqueue_writesOnly s r).mono (by decide)) (.same rfl rfl rfl)

theorem ctx_sound (c : Context) : Sound { s with ctl.ctx := c } :=
  h.silent ((ctx_writesOnly c s).mono (by decide)) (.same rfl rfl rfl)

/-- READ_CLOCK begins with the wires idle and the lock free (R43, R70, R170). -/
theorem startRead_sound (hready : rtcReady s = true) : Sound (startRead s) := by
  obtain ⟨hfree, hseq⟩ := rtcReady_iff.mp hready
  have hhold : rtcHolds s.rtc.seq = false := by obtain hs | hs := hseq <;> rw [hs] <;> rfl
  obtain ⟨-, hrce, hclk, hin⟩ := h.rtc.idle_wires hhold
  have hw := startRead_writesOnly s
  refine ⟨h.sensor.kept hw (by decide) ?_, ?_, ?_, h.event.kept hw (by decide) (startRead_onward s)⟩
  · rw [hfree]
    simp [startRead]
  · rw [startRead, displace_eq hseq]
    exact ⟨by simp [rtcHolds], h.clock.codes, h.clock.range, by simp⟩
  · rw [startRead, displace_eq hseq]
    exact wireSound_outside ⟨nofun, nofun⟩ rfl hrce hclk fun _ => hin

/-- The operand check of WRITE_CLOCK leaves the engine at `W_CHECK` with an operand in range, or idle (R180, R181). -/
theorem startWrite_sound (v : ClockValue) (hready : rtcFree s = true) : Sound (startWrite v s) := by
  have hseq := rtcFree_iff.mp hready
  have hhold : rtcHolds s.rtc.seq = false := by obtain hs | hs := hseq <;> rw [hs] <;> rfl
  have hnot : s.ctl.lock ≠ .held .rtc := fun hl => by simp [h.clock.lock.mp hl] at hhold
  have hw := startWrite_writesOnly v s
  have hlock : (startWrite v s).ctl.lock = s.ctl.lock := hw .lock (by decide)
  refine ⟨h.sensor.kept hw (by decide) (by rw [hlock]), ?_, ?_, h.event.kept hw (by decide) (startWrite_onward v s)⟩
  · cases hv : inRange v
    · rw [startWrite_outOfRange hv, displace_eq hseq]
      exact ⟨by simp [hnot, rtcHolds], .inr rfl, h.clock.range, by simp⟩
    · rw [startWrite_inRange hv, displace_eq hseq]
      exact ⟨by simp [hnot, rtcHolds], h.clock.codes, h.clock.range, fun _ => hv⟩
  · cases hv : inRange v
    · rw [startWrite_outOfRange hv, displace_eq hseq]
      exact wireSound_idle h.rtc hhold rfl rfl rfl
    · rw [startWrite_inRange hv, displace_eq hseq]
      exact wireSound_idle h.rtc hhold rfl rfl rfl

theorem startRequest_sound {r : Request} (hr : requestReady r s = true) : Sound (startRequest r s) := by
  cases r with
  | readSensor => exact startSensor_sound h hr
  | readClock => exact startRead_sound h hr
  | writeClock v => exact startWrite_sound h v hr

theorem request_sound (r : Request) : Sound (request r s) := by
  unfold request
  split
  next hr => exact startRequest_sound h hr
  next => exact enqueue_sound h r

end Kept

/-! ### The event channel, the latch and the decoder on a sound state -/

section Events

variable {s : State} (h : EventSound s)
include h

omit h in
/-- The record of an event is one, with a direction only if it is a rotation (R113, R253). -/
theorem recordOf_sound {onUp : Bool} {e : PushEvent} {r : Record} (hr : recordOf onUp e = some r) :
    r.kind ≠ .none ∧ (r.kind ≠ .rot → r.dir = false) := by
  cases e <;> cases onUp <;> cases hr <;> decide

theorem push_eventSound (e : PushEvent) : EventSound (push e s) := by
  obtain ⟨r, hr, hp⟩ | ⟨_, hp⟩ := push_cases e s <;> rw [hp]
  · obtain ⟨hkind, hdir⟩ := recordOf_sound hr
    exact { h with avail := by simpa using hkind, dir := hdir }
  · exact { h with }

theorem pop_eventSound : EventSound (pop s) := { h with }

theorem takeRecord_eventSound : EventSound (takeRecord s) :=
  { h with avail := by simp [takeRecord, setRecord, recordEvent], dir := fun _ => rfl }

theorem setAcc_eventSound {v : Int} (hv : -(s.cfg.nDetent : Int) < v ∧ v < s.cfg.nDetent) : EventSound (setAcc v s) :=
  { h with acc := hv }

/-- The thresholds are apart, so that zero lies between them (R31). -/
theorem EventSound.zero_inside : -(s.cfg.nDetent : Int) < 0 ∧ (0 : Int) < s.cfg.nDetent := by
  obtain ⟨hlo, hhi⟩ := h.acc
  omega

theorem accumulate_eventSound (d : Int) : EventSound (accumulate d s) := by
  have pushed (e : PushEvent) : EventSound (setAcc 0 (push e s)) :=
    setAcc_eventSound (push_eventSound h e) (push_eventSound h e).zero_inside
  obtain ⟨_, e⟩ | ⟨_, _, e⟩ | ⟨hlo, hhi, e⟩ := accumulate_cases d s <;> rw [e]
  · exact pushed _
  · exact pushed _
  · exact setAcc_eventSound h ⟨hlo, hhi⟩

theorem acceptEdge_eventSound (new : RawState) : EventSound (acceptEdge new s) := by
  have hrec : EventSound (recordEdge new s) :=
    { h with quad := fun _ ht => Nat.le_of_eq (Option.some.inj ht).symm }
  by_cases hd : transitionStep s.cfg.dirSwap s.quad.prev new = 0
  · rw [acceptEdge_invalid hd]
    exact hrec
  · rw [acceptEdge_valid hd]
    exact accumulate_eventSound hrec _

theorem encoderEdge_eventSound (a b : Bool) : EventSound (encoderEdge a b s) := by
  obtain ⟨_, e⟩ | ⟨_, _, e⟩ | ⟨_, _, _, e⟩ | ⟨_, _, _, e⟩ := encoderEdge_cases a b s <;> rw [e]
  · exact { h with }
  · exact { h with }
  · exact { h with }
  · exact { acceptEdge_eventSound h (rawState a b) with }

theorem buttonEdge_eventSound (l : Bool) : EventSound (buttonEdge l s) := by
  obtain ⟨_, e⟩ | ⟨_, _, e⟩ | ⟨_, _, e⟩ := buttonEdge_cases l s <;> rw [e]
  · exact { h with }
  · obtain hp | ⟨_, _, hp⟩ := pressButton_cases s <;> rw [hp]
    · exact { h with }
    · have hset : EventSound { s with button := { latch := true, last := some s.time } } :=
        { h with button := fun _ ht => Nat.le_of_eq (Option.some.inj ht).symm }
      exact { push_eventSound hset .buttonDown with }
  · obtain ⟨_, hr⟩ | ⟨_, hr⟩ := releaseButton_cases s <;> rw [hr]
    · exact { h with }
    · have hclear : EventSound { s with button.latch := false } := { h with }
      exact { push_eventSound hclear .buttonUp with }

theorem enableRotary_eventSound (a b : Bool) : EventSound (enableRotary a b s) :=
  { h with acc := h.zero_inside, quad := nofun }

end Events

section Host

variable {s : State} (h : Sound s)
include h

theorem encoderEdge_sound (a b : Bool) : Sound (encoderEdge a b s) :=
  h.withEvents ((encoderEdge_writesOnly s a b).mono (by decide)) (encoderEdge_eventSound h.event a b)

theorem buttonEdge_sound (l : Bool) : Sound (buttonEdge l s) :=
  h.withEvents ((buttonEdge_writesOnly s l).mono (by decide)) (buttonEdge_eventSound h.event l)

theorem pop_sound : Sound (pop s) := h.withEvents ((pop_writesOnly s).mono (by decide)) (pop_eventSound h.event)

theorem takeRecord_sound : Sound (takeRecord s) :=
  h.withEvents ((takeRecord_writesOnly s).mono (by decide)) (takeRecord_eventSound h.event)

theorem blockReader_sound : Sound (blockReader s) :=
  h.silent ((blockReader_writesOnly s).mono (by decide)) (.same rfl rfl rfl)

end Host

end Sys2Proof.Machine
namespace Sys2Proof.Machine

/-! ### Codes in their place on a sound state -/

section Codes

variable {s : State} (h : Sound s)
include h

theorem inPlace_sound {here : Bool} {f : State → State} (hf : here = true → Sound (f s)) : Sound (inPlace here f s) := by
  obtain ⟨hhere, e⟩ | ⟨_, e⟩ := inPlace_cases here f s <;> rw [e]
  · exact hf hhere
  · exact h

theorem rtcByte_inPlace_sound (here : Bool) : Sound (inPlace here rtcByte s) := inPlace_sound h fun _ => rtcByte_sound h

/-- What the device or the sensor presents is no part of the invariant (R62, R66). -/
theorem env_sound (e : Env) : Sound { s with env := e } := by
  refine h.silent (fun p hp => ?_) (.same rfl rfl rfl)
  cases p <;> simp_all [Part.same, silentParts]

theorem dataByte_sound (j : Fin 8) (b : Byte) : Sound (dataByte j b s) := by
  unfold dataByte
  repeat' split
  · exact rtcByte_sound (env_sound h _)
  · exact h
  · exact rtcByte_inPlace_sound h _
  · exact h
  · exact h

theorem frameByte_sound (n : Fin 5) (b : Byte) : Sound (frameByte n b s) := by
  unfold frameByte
  repeat' split
  · exact env_sound (runSensor_sound (env_sound h _) 24) _
  · exact h
  · exact h

theorem tableEntry_sound (prev new : RawState) : Sound (tableEntry prev new s) :=
  inPlace_sound h fun _ => encoderEdge_sound h _ _

theorem sensorTick_inPlace_sound (here : Bool) : Sound (inPlace here (sensorTick none) s) :=
  inPlace_sound h fun _ => sensorTick_sound h none

end Codes

/-! ### Instructions, agents and lines on a sound state -/

section Instructions

variable {s t u : State}

theorem next_sound (ht : (.next u : Host.Outcome State Fault Refusal) = .next t) (hu : Sound u) : Sound t := by
  cases ht
  exact hu

theorem taskOnly_sound {r : Refusal} (ht : taskOnly r s (.next u) = .next t) (hu : Sound u) : Sound t :=
  next_sound (taskOnly_next ht).2 hu

theorem busStep_sound {f : State → State} (ht : busStep f s = .next t) (hf : Sound (f s)) : Sound t :=
  taskOnly_sound ht hf

variable (h : Sound s)
include h

theorem execReadSensor_sound (ht : execReadSensor s = .next t) : Sound t := by
  refine busStep_sound ht ?_
  split
  next hr => exact runSensor_sound (startSensor_sound h hr) _
  next => exact enqueue_sound h _

theorem execReadClock_sound (ht : execReadClock s = .next t) : Sound t := by
  refine busStep_sound ht ?_
  split
  next hr => exact runRtc_sound _ (startRead_sound h hr)
  next => exact enqueue_sound h _

theorem execWriteClock_sound {v : ClockValue} (ht : execWriteClock v s = .next t) : Sound t := by
  refine busStep_sound ht ?_
  split
  next hr => exact runRtc_sound _ (startWrite_sound h v hr)
  next => exact enqueue_sound h _

theorem execEvWaitRead_sound (ht : execEvWaitRead s = .next t) : Sound t := by
  refine taskOnly_sound ht ?_
  split
  · exact takeRecord_sound h
  · exact blockReader_sound h

theorem execRotEnable_sound {a b : Bool} (ht : execRotEnable a b s = .next t) : Sound t := by
  refine taskOnly_sound ht (h.withEvents ?_ (enableRotary_eventSound h.event a b))
  intro p hp
  cases p <;> simp_all [Part.same, eventParts, silentParts, enableRotary]

theorem execRotDisable_sound (ht : execRotDisable s = .next t) : Sound t := by
  refine taskOnly_sound ht (h.withEvents ?_ { h.event with })
  intro p hp
  cases p <;> simp_all [Part.same, eventParts, silentParts]

theorem execErrOK_sound (ht : execErrOK s = .next t) : Sound t := by
  refine busStep_sound ht ?_
  split
  · exact sensorTick_sound h none
  · exact inPlace_sound h fun _ => rtcTick_sound h

/-- An operand out of range does not stand at `W_CHECK` (R181). -/
theorem execErrRangeError_sound (ht : execErrRangeError s = .next t) : Sound t := by
  refine busStep_sound ht ?_
  cases hs : s.rtc.seq with
  | rDecode => exact inPlace_sound h fun _ => rtcTick_sound h
  | wCheck =>
    refine inPlace_sound h fun hout => ?_
    rw [h.clock.write (.inl hs)] at hout
    cases hout
  | _ => exact h

/-- Every instruction that has a code keeps a state sound; a micro-operation, which has none, may leave the place of the
engine it belongs to (R120). -/
theorem exec_sound {i : Instr} (hcode : formatOf i ≠ none) (ht : exec i s = .next t) : Sound t := by
  cases i
  case readSensor => exact execReadSensor_sound h ht
  case readClock => exact execReadClock_sound h ht
  case writeClock v => exact execWriteClock_sound h ht
  case evPop => exact taskOnly_sound ht (pop_sound h)
  case evWaitRead => exact execEvWaitRead_sound h ht
  case rotEnable a b => exact execRotEnable_sound h ht
  case rotDisable => exact execRotDisable_sound h ht
  case encEdge a b => exact next_sound ht (encoderEdge_sound h a b)
  case btnEdge l => exact next_sound ht (buttonEdge_sound h l)
  case hostopReserved | errTransportError => cases ht
  case waitLevel | sample | rtcWriteByte | rtcReadByte | rtcPair | burstRead | evPush => exact absurd rfl hcode
  case cmdBurstRead | cmdWrSeconds | cmdWrMinutes | cmdWrHours | cmdWrDay | cmdWrMonth | cmdWrWeekday | cmdWrYear
      | cmdWrControl | wpOff | wpOn =>
    exact busStep_sound ht (rtcByte_inPlace_sound h _)
  case rdataSeconds | rdataMinutes | rdataHours | rdataDay | rdataMonth | rdataWeekday | rdataYear | rdataControl =>
    exact busStep_sound ht (dataByte_sound h _ _)
  case sframeHumInt | sframeHumFrac | sframeTempInt | sframeTempFrac | sframeChecksum =>
    exact busStep_sound ht (frameByte_sound h _ _)
  case q_00_00 | q_00_01 | q_00_10 | q_00_11 | q_01_00 | q_01_01 | q_01_10 | q_01_11 | q_10_00 | q_10_01 | q_10_10
      | q_10_11 | q_11_00 | q_11_01 | q_11_10 | q_11_11 =>
    exact next_sound ht (tableEntry_sound h _ _)
  case evNone | evRotateCW | evRotateCCW | evButtonDown | evButtonUp =>
    exact taskOnly_sound ht (inPlace_sound h fun _ => pop_sound h)
  case lrecNone | lrecRotPlus | lrecRotMinus | lrecBtn =>
    exact taskOnly_sound ht (inPlace_sound h fun _ => takeRecord_sound h)
  case errOK => exact execErrOK_sound h ht
  case errTimeout | errChecksumMismatch => exact busStep_sound ht (sensorTick_inPlace_sound h _)
  case errRangeError => exact execErrRangeError_sound h ht

theorem serveLate_sound (src : Source) : Sound (serveLate src s) := by
  unfold serveLate
  split
  · have hclear : Sound { s with ctl.pend := s.ctl.pend.clear src } := by
      refine h.silent (fun p hp => ?_) (.same rfl rfl rfl)
      cases p <;> simp_all [Part.same, silentParts]
    cases src with
    | btn => exact buttonEdge_sound hclear _
    | encA | encB => exact encoderEdge_sound hclear _ _
  · exact h

theorem waiting_sound (rs : List Request) : Sound { s with ctl.waiting := rs } := by
  refine h.silent (fun p hp => ?_) (.same rfl rfl rfl)
  cases p <;> simp_all [Part.same, silentParts]

theorem readers_sound (n : Nat) : Sound { s with ctl.readers := n } := by
  refine h.silent (fun p hp => ?_) (.same rfl rfl rfl)
  cases p <;> simp_all [Part.same, silentParts]

theorem grantRequest_sound (n : Nat) : Sound (grantRequest n s) := by
  unfold grantRequest
  split
  next r _ =>
    split
    next hr => exact startRequest_sound (waiting_sound h _) (r := r) (by cases r <;> exact hr)
    next => exact h
  next => exact h

theorem wakeReader_sound : Sound (wakeReader s) := by
  unfold wakeReader
  split
  · exact takeRecord_sound (readers_sound h _)
  · exact h

theorem runPick_sound (p : Pick) : Sound (runPick p s) := by
  obtain ⟨_, e⟩ | ⟨_, _, e⟩ := runPick_cases p s <;> rw [e]
  · cases p with
    | sensor want => exact sensorTick_sound h want
    | rtc => exact rtcTick_sound h
    | grant n => exact grantRequest_sound h n
    | reader => exact wakeReader_sound h
    | late src => exact serveLate_sound h src
  · exact h

theorem goOn_sound : Sound (goOn s) := by
  unfold goOn
  split
  · exact runPick_sound h _
  · exact h

theorem serveLine_sound (l : Line) : Sound (serveLine l s) :=
  h.silent ((serveLine_writesOnly l s).mono (by decide)) (serveLine_onward l s)

theorem runLine_sound {l : Line} {i : Instr} (hcode : formatOf i ≠ none) (ht : runLine l i s = .next t) : Sound t := by
  obtain ⟨_, e⟩ | ⟨r, _, _, e⟩ := runLine_cases l i s <;> rw [e] at ht
  · exact exec_sound h hcode ht
  · exact busStep_sound ht (request_sound h r)

end Instructions

/-- What a line decodes to has a code (R90, R120). -/
theorem formatOf_of_decode {p : Params} {f : Format} {bytes rest : List Byte} {i : Instr}
    (hd : decode p f bytes = .ok (i, rest)) : formatOf i ≠ none := by
  by_cases hframe : ∃ n, f = .sframe n
  · obtain ⟨n, rfl⟩ := hframe
    have hrow (b : Byte) : formatOf (sframeRow n b) ≠ none := by
      match n with
      | 0 | 1 | 2 | 3 | 4 => exact Option.some_ne_none _
    rw [decode] at hd
    unfold decodeFrame at hd
    split at hd
    · cases hd
      exact hrow _
    · cases hd
  · obtain ⟨_, hf, _⟩ := Codes.decodedCodeIsTheCodeRead p f bytes rest i (fun n hn => hframe ⟨n, hn⟩) hd
    rw [hf]
    exact Option.some_ne_none _

/-! ### The step -/

/-- No agent changes the context: handlers are served by their own operations (R300, R302). -/
theorem startRequest_ctx (r : Request) (s : State) : (startRequest r s).ctl.ctx = s.ctl.ctx := by
  cases r with
  | readSensor => exact startSensor_writesOnly s .ctx (by decide)
  | readClock => exact startRead_writesOnly s .ctx (by decide)
  | writeClock v => exact startWrite_writesOnly v s .ctx (by decide)

theorem grantRequest_ctx (n : Nat) (s : State) : (grantRequest n s).ctl.ctx = s.ctl.ctx := by
  unfold grantRequest
  repeat' split
  · exact startRequest_ctx _ _
  · rfl
  · rfl

theorem wakeReader_ctx (s : State) : (wakeReader s).ctl.ctx = s.ctl.ctx := by
  unfold wakeReader
  split
  · exact takeRecord_writesOnly _ .ctx (by decide)
  · rfl

theorem serveLate_ctx (src : Source) (s : State) : (serveLate src s).ctl.ctx = s.ctl.ctx := by
  unfold serveLate
  split
  · cases src with
    | btn => exact buttonEdge_writesOnly _ _ .ctx (by decide)
    | encA | encB => exact encoderEdge_writesOnly _ _ _ .ctx (by decide)
  · rfl

theorem runPick_ctx (p : Pick) (s : State) : (runPick p s).ctl.ctx = s.ctl.ctx := by
  obtain ⟨_, e⟩ | ⟨_, _, e⟩ := runPick_cases p s <;> rw [e]
  cases p with
  | sensor want => exact sensorTick_writesOnly s want .ctx (by decide)
  | rtc => exact rtcTick_writesOnly s .ctx (by decide)
  | grant n => exact grantRequest_ctx n s
  | reader => exact wakeReader_ctx s
  | late src => exact serveLate_ctx src s

theorem goOn_ctx (s : State) : (goOn s).ctl.ctx = s.ctl.ctx := by
  unfold goOn
  split
  · exact runPick_ctx _ s
  · rfl

section Step

variable {s t : State} (h : Inv s)
include h

/-- A line's turn ends in task context (R302, R331). -/
theorem takeLine_inv {l : Line} (ht : takeLine l s = .next t) : Inv t := by
  obtain ⟨hs, hctx⟩ := (inv_iff s).mp h
  obtain ⟨_, _, e⟩ | ⟨i, _, hd, ⟨_, _, e⟩ | ⟨_, _, e⟩ | ⟨_, _, e⟩⟩ := takeLine_cases l s <;> rw [e] at ht
  · cases ht
  · cases ht
  · cases ht
    exact (inv_iff _).mpr ⟨sensorTick_sound hs none, (sensorTick_writesOnly s none .ctx (by decide)).trans hctx⟩
  · obtain ⟨u, hu, rfl⟩ := backToTask_next ht
    exact (inv_iff _).mpr ⟨ctx_sound (runLine_sound (serveLine_sound hs l) (formatOf_of_decode hd) hu) .task, rfl⟩

theorem step_inv (ht : step s = .next t) : Inv t := by
  obtain ⟨hs, hctx⟩ := (inv_iff s).mp h
  match hscript : s.env.script with
  | [] =>
    rw [step_goOn hscript] at ht
    cases ht
    exact (inv_iff _).mpr ⟨goOn_sound hs, (goOn_ctx s).trans hctx⟩
  | .pick p :: _ =>
    rw [step_pick hscript] at ht
    cases ht
    have hdrop : Sound (dropItem s) := hs.silent ((dropItem_writesOnly s).mono (by decide)) (.same rfl rfl rfl)
    exact (inv_iff _).mpr ⟨runPick_sound hdrop p, (runPick_ctx p (dropItem s)).trans hctx⟩
  | .line l :: _ => rw [step_line hscript] at ht; exact takeLine_inv h ht
  | .stepEdge n cw :: _ => rw [step_stepEdge hscript] at ht; exact takeLine_inv h ht

end Step

/-- Settles O9: each thing a step can do keeps every unit sound, and ends in task context. -/
theorem stepKeepsInvariant : Obligations.StepKeepsInvariant := fun _ _ h ht => step_inv h ht

end Sys2Proof.Machine
